-- ==== Sys2Proof/Word.lean ====
section
/-! DEFINITION. The word type of the model: the byte, which is the unit of every message, frame and image
(spec/11_frame_and_record_layouts.md, R211). -/

namespace Sys2Proof

/-- One byte; bit 7 is its most significant bit (R211). -/
abbrev Byte := BitVec 8

end Sys2Proof
end

