-- ==== Sys2Proof/Machine/Bytes.lean ====
section
/-! DEFINITION. Byte order and bit order: the whole-byte fields of R211, more significant byte first, and the bits of a byte,
most significant first. -/

namespace Sys2Proof.Machine

/-- The `n` bytes of `v`, more significant byte first (R211); what does not fit in `n` bytes is cut off. -/
def be : Nat → Nat → List Byte
  | 0, _ => []
  | n + 1, v => BitVec.ofNat 8 (v / 256 ^ n) :: be n v

/-- A field that may be absent: "none" and UNSET are all ones across the field's width (R211). -/
def beOpt (n : Nat) : Option Nat → List Byte
  | some v => be n v
  | none => be n (256 ^ n - 1)

/-- A boolean byte: 00h for no, 01h for yes (R211). -/
def boolByte (x : Bool) : List Byte := [if x then 1 else 0]

/-- The byte at offset `i`, as a number; 0 past the end. -/
def u8At (l : List Byte) (i : Nat) : Nat := (l.getD i 0).toNat

/-- The two-byte field at offset `i`, more significant byte first (R211). -/
def u16At (l : List Byte) (i : Nat) : Nat := u8At l i * 256 + u8At l (i + 1)

/-- The two bytes as one word, the first more significant. -/
def word16 (hi lo : Byte) : BitVec 16 := hi ++ lo

/-- The four bytes as one word, the first most significant. -/
def word32 (b3 b2 b1 b0 : Byte) : BitVec 32 := (b3 ++ b2 : BitVec 16) ++ (b1 ++ b0 : BitVec 16)

/-- The bytes of a 16-bit word, more significant first. -/
def bytes16 (w : BitVec 16) : List Byte := [w.extractLsb' 8 8, w.extractLsb' 0 8]

/-- The bytes of a 32-bit word, most significant first. -/
def bytes32 (w : BitVec 32) : List Byte :=
  [w.extractLsb' 24 8, w.extractLsb' 16 8, w.extractLsb' 8 8, w.extractLsb' 0 8]

/-- The first `n` bytes of a list as a vector; a byte past the end is 0. -/
def vecOf (n : Nat) (l : List Byte) : Vector Byte n :=
  ⟨((List.range n).map fun i => l.getD i 0).toArray, by simp⟩

/-- The bits of a byte, most significant first (R211); a recessive bit is a 1 (R1). -/
def byteBits (b : Byte) : List Bool :=
  [b.getLsbD 7, b.getLsbD 6, b.getLsbD 5, b.getLsbD 4, b.getLsbD 3, b.getLsbD 2, b.getLsbD 1, b.getLsbD 0]

/-- The bits of a run of bytes in the order they are sent (R2). -/
def bitsOf (l : List Byte) : List Bool := l.flatMap byteBits

end Sys2Proof.Machine
end

