-- ==== Sys2Proof/Syntax.lean ====
section
/-! DEFINITION. The commands of the NZ-240: one constructor for each row of spec/opcode_table.json, with the values the row's
event brings from outside. Values that arrive in a message are kept raw, as the host sent them (Table 23). -/

namespace Sys2Proof

/-- Outlet A or B (00, Names). -/
inductive Outlet where
  | a
  | b
  deriving DecidableEq, Repr

/-- What a transfer of the configuration read ended with (R204): no acknowledge, or the 64 bytes of one pass. -/
inductive ReadResult where
  | noAcknowledge
  | pass (bytes : Vector Byte 64)
  deriving DecidableEq, Repr

/-- The commands: one constructor per row of the table. -/
inductive Instr where
  -- start-up (spec/10)
  | powerOn
  | resetLineAsserted
  | resetLineReleased
  | configurationReadEnd (result : ReadResult)
  | passTimeout
  -- host port (spec/09)
  | pending
  | unknownCommand (bytes : List Byte)
  | nop
  | status
  | lineStatus
  | configure (image : Vector Byte 64)
  | setClock (minute : BitVec 16) (seconds : Byte)
  | openSession (outlet : Byte) (reference hold : BitVec 32) (tier : Byte) (demand floor : BitVec 16)
  | setDemand (outlet : Byte) (demand floor : BitVec 16) (complete : Byte)
  | closeSession (outlet : Byte)
  | outletStatus (outlet : Byte)
  | rosterRead (id : Byte)
  | tariffLoad (bank : Byte) (image : Vector Byte 57)
  | tariffSelect (bank : Byte)
  | tariffRead (bank : Byte)
  | recordPeek
  | recordRelease
  | events (clear : BitVec 16)
  | eventEnable (enable : BitVec 16)
  | restart
  -- share line and roster (spec/01, spec/02)
  | leaveTimerExpiry
  | sharePeriodTick
  | quarterPeriodMark
  | attemptStart
  | arbitrationLoss
  | bitError
  | restTimerExpiry
  | ownFrameCompletion (acknowledged : Bool)
  | stuffViolation
  | announceReceived (frame : Vector Byte 21) (lengthMarkDominant : Bool)
  | leaveReceived (frame : Vector Byte 4) (lengthMarkDominant : Bool)
  -- grants (spec/04)
  | riseHoldExpiry
  | setpointWordEnd (o : Outlet)
  | confirmation (o : Outlet)
  | confirmTimeout (o : Outlet)
  | parkHoldExpiry (o : Outlet)
  -- outlet sessions (spec/05)
  | eStopAsserted
  | eStopReleased
  | holdChange (o : Outlet) (released : Bool)
  | faultAsserted (o : Outlet)
  | faultReleased (o : Outlet)
  | feedbackClosed (o : Outlet)
  | feedbackOpen (o : Outlet)
  | mismatchTimerExpiry (o : Outlet)
  | startTimerExpiry (o : Outlet)
  | closeTimerExpiry (o : Outlet)
  -- metering and accounts (spec/06, spec/08)
  | meterPulse (o : Outlet)
  | noFlow (o : Outlet)
  | dwellMinute (o : Outlet)
  -- line level, filters, clock, chip select
  | lineIdle
  | frameStartBit
  | settledRecognisedLow (o : Outlet)
  | pulseRecognisedInactive (o : Outlet)
  | tariffClockAdvance
  | chipSelectRise (bytes : List Byte)
  deriving DecidableEq, Repr

end Sys2Proof
end

