-- ==== Sys2Proof/Decode.lean ====
section
/-! DEFINITION. Decoding. The table gives no row any bits, so `decodeTableWord` answers none. What the spec does encode of a
command is the host's command message (Tables 22 and 23): `commandOf` reads the command a transaction's bytes spell, and
`messageOf` writes the message of a host command. -/

namespace Sys2Proof

/-- The command a word spells by the table's bits: no row of spec/opcode_table.json gives any. -/
def decodeTableWord (_nbits _w : Nat) : Option Instr := none

/-- Table 23: the payload length of the command a code names; none for 00h and for codes above 12h. -/
def payloadLength (code : Nat) : Option Nat :=
  match code with
  | 0x01 => some 0
  | 0x02 => some 0
  | 0x03 => some 0
  | 0x04 => some 64
  | 0x05 => some 3
  | 0x06 => some 14
  | 0x07 => some 6
  | 0x08 => some 1
  | 0x09 => some 1
  | 0x0A => some 1
  | 0x0B => some 58
  | 0x0C => some 1
  | 0x0D => some 1
  | 0x0E => some 0
  | 0x0F => some 0
  | 0x10 => some 2
  | 0x11 => some 2
  | 0x12 => some 0
  | _ => none

/-- The command that a code and a payload of Table 23's length spell. -/
def payloadCommand (code : Nat) (p : List Byte) : Option Instr :=
  let at' := fun i => p.getD i 0
  match code with
  | 0x01 => some .nop
  | 0x02 => some .status
  | 0x03 => some .lineStatus
  | 0x04 => some (.configure (Machine.vecOf 64 p))
  | 0x05 => some (.setClock (Machine.word16 (at' 0) (at' 1)) (at' 2))
  | 0x06 => some (.openSession (at' 0) (Machine.word32 (at' 1) (at' 2) (at' 3) (at' 4))
      (Machine.word32 (at' 5) (at' 6) (at' 7) (at' 8)) (at' 9)
      (Machine.word16 (at' 10) (at' 11)) (Machine.word16 (at' 12) (at' 13)))
  | 0x07 => some (.setDemand (at' 0) (Machine.word16 (at' 1) (at' 2)) (Machine.word16 (at' 3) (at' 4)) (at' 5))
  | 0x08 => some (.closeSession (at' 0))
  | 0x09 => some (.outletStatus (at' 0))
  | 0x0A => some (.rosterRead (at' 0))
  | 0x0B => some (.tariffLoad (at' 0) (Machine.vecOf 57 p.tail))
  | 0x0C => some (.tariffSelect (at' 0))
  | 0x0D => some (.tariffRead (at' 0))
  | 0x0E => some .recordPeek
  | 0x0F => some .recordRelease
  | 0x10 => some (.events (Machine.word16 (at' 0) (at' 1)))
  | 0x11 => some (.eventEnable (Machine.word16 (at' 0) (at' 1)))
  | 0x12 => some .restart
  | _ => none

/-- The command a taken transaction's bytes spell (R180, Table 22): the code, the two length bytes and the payload, with
fill after it ignored. What no command's message fits is the UNKNOWN_COMMAND row (R185 steps 1, 2 and 4). -/
def commandOf (bytes : List Byte) : Instr :=
  match bytes with
  | code :: hi :: lo :: payload =>
    match payloadLength code.toNat with
    | some n =>
      if (Machine.word16 hi lo).toNat = n ∧ n ≤ payload.length then
        (payloadCommand code.toNat payload).getD (.unknownCommand bytes)
      else .unknownCommand bytes
    | none => .unknownCommand bytes
  | _ => .unknownCommand bytes

/-- The command code of a host command (Table 23); none for a row that is not one of the eighteen commands. -/
def commandCode : Instr → Option Nat
  | .nop => some 0x01
  | .status => some 0x02
  | .lineStatus => some 0x03
  | .configure _ => some 0x04
  | .setClock _ _ => some 0x05
  | .openSession _ _ _ _ _ _ => some 0x06
  | .setDemand _ _ _ _ => some 0x07
  | .closeSession _ => some 0x08
  | .outletStatus _ => some 0x09
  | .rosterRead _ => some 0x0A
  | .tariffLoad _ _ => some 0x0B
  | .tariffSelect _ => some 0x0C
  | .tariffRead _ => some 0x0D
  | .recordPeek => some 0x0E
  | .recordRelease => some 0x0F
  | .events _ => some 0x10
  | .eventEnable _ => some 0x11
  | .restart => some 0x12
  | .powerOn | .resetLineAsserted | .resetLineReleased | .configurationReadEnd _ | .passTimeout => none
  | .pending | .unknownCommand _ | .chipSelectRise _ => none
  | .leaveTimerExpiry | .sharePeriodTick | .quarterPeriodMark | .attemptStart | .arbitrationLoss => none
  | .bitError | .restTimerExpiry | .ownFrameCompletion _ | .stuffViolation => none
  | .announceReceived _ _ | .leaveReceived _ _ | .lineIdle | .frameStartBit => none
  | .riseHoldExpiry | .setpointWordEnd _ | .confirmation _ | .confirmTimeout _ | .parkHoldExpiry _ => none
  | .eStopAsserted | .eStopReleased | .holdChange _ _ | .faultAsserted _ | .faultReleased _ => none
  | .feedbackClosed _ | .feedbackOpen _ | .mismatchTimerExpiry _ | .startTimerExpiry _ | .closeTimerExpiry _ => none
  | .meterPulse _ | .noFlow _ | .dwellMinute _ => none
  | .settledRecognisedLow _ | .pulseRecognisedInactive _ | .tariffClockAdvance => none

/-- The payload of a host command, in the order of Table 23. -/
def payloadOf : Instr → List Byte
  | .configure image => image.toList
  | .setClock minute seconds => Machine.bytes16 minute ++ [seconds]
  | .openSession outlet reference hold tier demand floor =>
    [outlet] ++ Machine.bytes32 reference ++ Machine.bytes32 hold ++ [tier] ++
      Machine.bytes16 demand ++ Machine.bytes16 floor
  | .setDemand outlet demand floor complete =>
    [outlet] ++ Machine.bytes16 demand ++ Machine.bytes16 floor ++ [complete]
  | .closeSession outlet => [outlet]
  | .outletStatus outlet => [outlet]
  | .rosterRead id => [id]
  | .tariffLoad bank image => bank :: image.toList
  | .tariffSelect bank => [bank]
  | .tariffRead bank => [bank]
  | .events clear => Machine.bytes16 clear
  | .eventEnable enable => Machine.bytes16 enable
  | _ => []

/-- The command message of a host command (Table 22): code, payload length, payload. -/
def messageOf (i : Instr) : Option (List Byte) :=
  (commandCode i).map fun code =>
    BitVec.ofNat 8 code :: Machine.be 2 (payloadOf i).length ++ payloadOf i

end Sys2Proof
end

