-- ==== Sys2Proof/Config.lean ====
section
/-! DEFINITION. The free values: constants without a body, so that nothing proved of the model can rest on what they are.
Each is applied to `State.draws`, a counter that every use advances. -/

namespace Sys2Proof.Config

/-- Which of several internal events that fall due in the same instant is taken first ("Either may be taken first",
e.g. R77, R97, R111, R114; assumption log 2). The draw is reduced modulo the number of events due. -/
opaque duePick : Nat → Nat

/-- Whether an E-STOP that finds a waiting rise trips outlet B before outlet A (R86, R109; assumption log 4). -/
opaque tripsBFirst : Nat → Bool

/-- The value a counter takes when it would pass the end of its stated range and the spec gives neither saturation nor
wrapping (dwell clock, dwell minutes, occupancy minutes, parked time; assumption log 3). The draw is reduced into the range. -/
opaque pastRange : Nat → Nat

/-- Whether a transaction that no PENDING row announced was under way when the reset line was asserted (R203; assumption log 9). -/
opaque underWayAtReset : Nat → Bool

/-- The bytes that MISO carried in a transaction that a reset fell into, by their place in it (R181, R203; assumption log 9). -/
opaque shiftedAcrossReset : Nat → Nat → BitVec 8

end Sys2Proof.Config
end

