-- ==== Sys2Proof/Machine/State.lean ====
section
/-! DEFINITION. The state of the NZ-240, block by block as spec/00 Table 1 lists them, as plain data; what can stop a step;
and the state right after reset. INVENTORY.md gives the rule and the reset value of every field. -/

namespace Sys2Proof.Machine

/-- What stops the machine: the spec names nothing that does (every failure is a value of state: a trip cause, a counter, a
flag, a refusal status in the held response), so there is no fault. Safe: no behaviour is cut short. -/
inductive Fault where
  deriving DecidableEq, Repr

/-- What the model gives no meaning to. -/
inductive Refusal where
  /-- Raised by `exec` alone, for a command whose arm is not modelled yet; no arm answers it. Safe: a stop claims nothing. -/
  | notModelled (mnemonic : String)
  deriving DecidableEq, Repr

/-- A timer: stopped, or running toward a time of the 1 ms timebase (spec/00, Time). -/
abbrev Timer := Option Nat

/-- Line mode (R211 gives the codes in this order). -/
inductive LineMode where
  | joined
  | halfHeard
  | isolated
  deriving DecidableEq, Repr

/-- Tariff bank A or B. -/
inductive Bank where
  | a
  | b
  deriving DecidableEq, Repr

/-- The configuration image's items (R206), as numbers; the weekend set is a mask of days 0 to 6 (Table 27). -/
structure Image where
  stationId : Nat
  nSite : Nat
  limit : Nat
  guard : Nat
  pMax : Nat
  outlets : Nat
  pOutA : Nat
  pOutB : Nat
  weight0 : Nat
  weight1 : Nat
  weight2 : Nat
  weight3 : Nat
  sharePeriod : Nat
  staleCount : Nat
  isolationCount : Nat
  lapseCount : Nat
  riseStep : Nat
  resumeMargin : Nat
  parkHold : Nat
  confirmTimeout : Nat
  startTimeout : Nat
  feedbackTime : Nat
  filterDepth : Nat
  meterDepth : Nat
  pulseWeight : Nat
  beta : Nat
  tolerance : Nat
  overDrawLimit : Nat
  busyPercent : Nat
  stopReserve : Nat
  weekend : Byte
  deriving DecidableEq, Repr

/-- A configuration read under way (R204): what its first pass gave, once that has ended, the ms since the pass under way began,
and whether the read has failed. -/
structure ConfigRead where
  firstPass : Option (Vector Byte 64)
  elapsed : Nat
  failed : Bool
  deriving DecidableEq, Repr

/-- The configured state (R202). An image is held exactly while RUNNING; a read is under way at most while LOADING. -/
inductive Configured where
  | loading (read : Option ConfigRead)
  | unconfigured
  | running (image : Image)
  deriving DecidableEq, Repr

/-- One input behind a filter (R94, R121): the level at the pin, the recognised level and the run count. `true` is asserted,
high, closed or active. A run count that has reached the depth marks a recognition that is due. -/
structure Filter where
  pin : Bool
  level : Bool
  run : Nat
  deriving DecidableEq, Repr

/-- Transmitter state (R11). -/
inductive Tx where
  | on
  | resting
  | barred
  deriving DecidableEq, Repr

/-- One outlet's entry in an ANNOUNCE (R4). -/
structure Claim where
  present : Bool
  demand : Nat
  weight : Nat
  parked : Bool
  deriving DecidableEq, Repr

/-- What an ANNOUNCE carries beside its id and sequence (R4): the announced values of R8 with the site limit. The heard set
is a mask, bit n for id n (R211). -/
structure Announced where
  mode : LineMode
  limit : Nat
  granted : Nat
  intended : Nat
  claimA : Claim
  claimB : Claim
  heard : BitVec 32
  deriving DecidableEq, Repr

/-- The two frame kinds (Table 9). -/
inductive FrameKind where
  | announce
  | leave
  deriving DecidableEq, Repr

/-- An own frame on the line, with the content taken at its start bit (R4, R5). -/
inductive OwnFrame where
  | announce (sequence : Byte) (content : Announced)
  | leave (sequence : Byte)
  deriving DecidableEq, Repr

/-- Transmit slot (Table 10). -/
inductive Slot where
  | empty
  | deferred (mark : Nat)
  | due (kind : FrameKind)
  | sending (frame : OwnFrame)
  deriving DecidableEq, Repr

/-- The receiver: not receiving, receiving a frame, or ignoring the line until it is next idle (R14, R15). -/
inductive Receiver where
  | quiet
  | receiving
  | ignoring
  deriving DecidableEq, Repr

/-- Share Line Controller (spec/01). -/
structure Slc where
  tx : Tx
  restTimer : Timer
  leaveTimer : Timer
  leaveWait : Bool
  leaveExpired : Bool
  slot : Slot
  tickOwed : Bool
  sequence : Byte
  bitErrorRun : Nat
  checkErrors : Nat
  abortedSeen : Nat
  arbitrationLosses : Nat
  unacknowledged : Nat
  bitErrors : Nat
  reference : Option Announced
  lastDone : Option Nat
  shareTick : Timer
  lineIdle : Bool
  receiver : Receiver
  drive : List Bool
  deriving DecidableEq, Repr

/-- One roster entry (R22); `fresh` is the status FRESH. -/
structure Entry where
  id : Nat
  fresh : Bool
  age : Nat
  freshRun : Nat
  lastSequence : Byte
  missed : Nat
  claimA : Claim
  claimB : Claim
  granted : Nat
  intended : Nat
  limit : Nat
  heard : BitVec 32
  mode : LineMode
  deriving DecidableEq, Repr

/-- Peer Roster (spec/02). The roster is kept in rising order of ids. -/
structure Prs where
  roster : List Entry
  nEff : Nat
  unseen : Nat
  lEff : Nat
  mismatches : List Nat
  peerSilence : Nat
  ackSilence : Nat
  unheard : Nat
  heardSinceEntry : Bool
  mode : LineMode
  deriving DecidableEq, Repr

/-- Share Calculator, the station's part of the result (R45). -/
structure Shc where
  iso : Nat
  available : Nat
  busy : Bool
  deriving DecidableEq, Repr

/-- Share Calculator, one outlet's part of the result (R45). -/
structure Share where
  raw : Nat
  split : Nat
  target : Nat
  hypothetical : Option Nat
  deriving DecidableEq, Repr

/-- Grant Logic, the station part (R69): rise hold, rise-waiting flag, opening order. -/
structure GrlStation where
  riseHold : Timer
  riseWaiting : Bool
  order : List Outlet
  deriving DecidableEq, Repr

/-- The park hold timer (R69). -/
inductive ParkHold where
  | stopped
  | running (until_ : Nat)
  | expired
  deriving DecidableEq, Repr

/-- Grant Logic, one outlet's part (R69, R71, R90). `word` is the 26 bits of the setpoint word being sent on SETPT, first bit most
significant (R213), and `wordAgain` says a further one follows; `earlierRise` marks a rise of SETTLED that began before the latest word ended (R74). -/
structure Grl where
  target : Nat
  commanded : Nat
  inEffect : Nat
  pending : Option Nat
  unconfirmed : Bool
  confirmTimer : Timer
  parkHold : ParkHold
  peak : Nat
  parkedMs : Nat
  word : Option (BitVec 26)
  wordAgain : Bool
  wordLeft : Nat
  earlierRise : Bool
  deriving DecidableEq, Repr

/-- Session states, in the order of Table 14. -/
inductive Session where
  | idle
  | starting
  | dispensing
  | parked
  | dwell
  | exhausted
  | tripped
  | closing
  | settleWait
  deriving DecidableEq, Repr

/-- Trip causes, in the order of R107. -/
inductive TripCause where
  | eStop
  | contactor
  | moduleFault
  | startTimeout
  | confirmTimeout
  | overDraw
  deriving DecidableEq, Repr

/-- Close origin (R93). -/
inductive CloseOrigin where
  | starting
  | other
  deriving DecidableEq, Repr

/-- Close phase while CLOSING (R93); none is `Option.none`. -/
inductive ClosePhase where
  | outputWait
  | openWait
  deriving DecidableEq, Repr

/-- Session header (R93). The bound bank comes with the version it had at binding. `bound` describes the session in progress and then the
one last ended, and stays readable (R93, R116); `binding` is the header's record of the bank that the session is bound to now, set and
cleared together with the Tariff Unit's binding (R138; log 20). -/
structure Header where
  reference : BitVec 32
  hold : Nat
  tier : Nat
  demand : Nat
  floor : Nat
  bound : Option (Bank × BitVec 16)
  binding : Option (Bank × BitVec 16)
  startClock : Option Nat
  deriving DecidableEq, Repr

/-- Outlet Session Controller (R93). -/
structure Osc where
  state : Session
  header : Header
  sessionTime : Nat
  closeOrigin : CloseOrigin
  tripCause : Option TripCause
  closePhase : Option ClosePhase
  exhaustedFlag : Bool
  forcedOpen : Bool
  driveClosed : Bool
  startTimer : Timer
  mismatchTimer : Timer
  closeTimer : Timer
  deriving DecidableEq, Repr

/-- Capture states (Table 16). -/
inductive Capture where
  | off
  | waiting
  | timing
  | timedOut
  deriving DecidableEq, Repr

/-- Meter Front (R120). -/
structure Mtf where
  pulse : Filter
  capture : Capture
  counter : Nat
  lastInterval : Option Nat
  lastEstimate : Option Nat
  smoothed : Nat
  reseed : Bool
  overDraw : Nat
  stray : Nat
  deriving DecidableEq, Repr

/-- Site condition code of a window as stored (Table 26): 0 ANY, 1 QUIET, 2 BUSY; a disabled window may hold 3. -/
abbrev SiteCode := BitVec 2

/-- A tariff window as stored (R140, Table 26). -/
structure Window where
  enabled : Bool
  site : SiteCode
  days : BitVec 2
  first : Byte
  last : Byte
  tiers : BitVec 4
  price : BitVec 16
  deriving DecidableEq, Repr

/-- A LOADED bank (R139). -/
structure BankContents where
  version : BitVec 16
  sessionFee : BitVec 16
  occupancyFee : BitVec 16
  grace : Byte
  fallback : BitVec 16
  windows : Vector Window 8
  deriving DecidableEq, Repr

/-- Outcome of a price lookup (R138, R152). -/
inductive Lookup where
  | none
  | found
  | noWindow
  | overlap
  | clockUnset
  deriving DecidableEq, Repr

/-- Segment key (R158): a window index or FALLBACK. -/
inductive SegmentKey where
  | window (index : Nat)
  | fallback
  deriving DecidableEq, Repr

/-- Tariff Unit, one outlet's part (R138); the three bits are the session fault set. -/
structure TruOutlet where
  binding : Option Bank
  outcome : Lookup
  price : Option Nat
  segment : Option SegmentKey
  faultNoWindow : Bool
  faultOverlap : Bool
  faultClockUnset : Bool
  deriving DecidableEq, Repr

/-- Tariff clock (R147). While UNSET it holds 0:00.000. -/
structure Clock where
  set : Bool
  minute : Nat
  second : Nat
  milli : Nat
  deriving DecidableEq, Repr

/-- Tariff Unit, the station's part (R138). -/
structure Tru where
  bankA : Option BankContents
  bankB : Option BankContents
  selected : Bank
  clock : Clock
  deriving DecidableEq, Repr

/-- One segment of a session's accounts (R158). -/
structure Segment where
  key : SegmentKey
  energy : Nat
  amount : Nat
  deriving DecidableEq, Repr

/-- Session accounts (R158); the last three are the account flags. -/
structure Accounts where
  segments : List Segment
  energy : Nat
  feeApplied : Nat
  occupancyMinutes : Nat
  occupancyAmount : Nat
  total : Nat
  dwellClock : Nat
  dwellMinutes : Nat
  stopped : Bool
  tariffFault : Bool
  saturated : Bool
  capped : Bool
  deriving DecidableEq, Repr

/-- End causes, in the order of R171. -/
inductive EndCause where
  | hostClose
  | aborted
  | tripped (cause : TripCause)
  deriving DecidableEq, Repr

/-- A settlement record (R171). A held record has no sequence yet and carries 0 there (R175). -/
structure Record where
  sequence : BitVec 16
  outlet : Outlet
  reference : BitVec 32
  bound : Option (Bank × BitVec 16)
  tier : Nat
  startClock : Option Nat
  duration : Nat
  endCause : EndCause
  energy : Nat
  segments : List Segment
  feeApplied : Nat
  occupancyMinutes : Nat
  occupancyAmount : Nat
  total : Nat
  settled : Nat
  hold : Nat
  uncollected : Nat
  parkedSeconds : Nat
  peak : Nat
  tariffFault : Bool
  saturated : Bool
  capped : Bool
  exhausted : Bool
  forcedOpen : Bool
  deriving DecidableEq, Repr

/-- Settlement Unit, the station's part (R158, R173, R117). -/
structure Stu where
  queue : List Record
  counter : BitVec 16
  settleWait : List Outlet
  deriving DecidableEq, Repr

/-- Everything the part holds once for each outlet. -/
structure OutletState where
  hold : Filter
  settled : Filter
  fault : Filter
  feedback : Filter
  share : Share
  grl : Grl
  osc : Osc
  mtf : Mtf
  tru : TruOutlet
  acc : Accounts
  heldRecord : Option Record
  deriving DecidableEq, Repr

/-- Statuses of a response, in the order of R186. -/
inductive Status where
  | ok
  | pending
  | unknownCommand
  | badLength
  | badValue
  | wrongState
  | inhibited
  | bankInUse
  | noTariff
  | queueEmpty
  | restartUnseen
  | unconfigured
  deriving DecidableEq, Repr

/-- A response (R181); code 0 is none (Table 22). -/
structure Response where
  status : Status
  code : Byte
  payload : List Byte
  deriving DecidableEq, Repr

/-- Host Port (spec/09). Flags and enable set are masks in the order of R197, bit 0 RESTART to bit 14 STRAY PULSE. `captured`
is the message of a command that is executing; `pendingOpen` says the transaction under way was answered PENDING, and
`underWay` that one was under way at the reset line whose end is still to come (R203); `miso` is what the part last shifted out,
and `misoReleased` says that it does not drive MISO, as chip select is high (R180). -/
structure Hpt where
  flags : BitVec 15
  enable : BitVec 15
  held : Response
  captured : Option (List Byte)
  pendingOpen : Bool
  underWay : Bool
  miso : List Byte
  misoReleased : Bool
  deriving DecidableEq, Repr

/-- The machine. `pending` is the queue of waiting commands, oldest first; `now`, `phase` and `clockTickDue` are the timebase;
`draws` counts the free values used (assumption logs 1 to 3). -/
structure State where
  pending : List Instr
  draws : Nat
  now : Nat
  phase : Nat
  clockTickDue : Bool
  resetLow : Bool
  configured : Configured
  eStop : Filter
  slc : Slc
  prs : Prs
  shc : Shc
  grl : GrlStation
  tru : Tru
  stu : Stu
  hpt : Hpt
  outA : OutletState
  outB : OutletState
  deriving DecidableEq, Repr

/-- An input at the level given, at its pin and recognised, with no run (R95, R122). -/
def Filter.at (level : Bool) : Filter := { pin := level, level := level, run := 0 }

/-- R21, with nothing driven and the line not found idle (log 6). -/
def Slc.reset : Slc :=
  { tx := .on, restTimer := none, leaveTimer := none, leaveWait := false, leaveExpired := false, slot := .empty,
    tickOwed := false, sequence := 0, bitErrorRun := 0, checkErrors := 0, abortedSeen := 0, arbitrationLosses := 0,
    unacknowledged := 0, bitErrors := 0, reference := none, lastDone := none, shareTick := none, lineIdle := false,
    receiver := .quiet, drive := [] }

/-- R44, first paragraph; the values it does not name are 0 until the entry to RUNNING (log 7). -/
def Prs.reset : Prs :=
  { roster := [], nEff := 0, unseen := 0, lEff := 0, mismatches := [], peerSilence := 0, ackSilence := 0, unheard := 0,
    heardSinceEntry := false, mode := .isolated }

/-- R48. -/
def Shc.reset : Shc := { iso := 0, available := 0, busy := false }

/-- R48. -/
def Share.reset : Share := { raw := 0, split := 0, target := 0, hypothetical := none }

/-- R92, station part. -/
def GrlStation.reset : GrlStation := { riseHold := none, riseWaiting := false, order := [] }

/-- R92, one outlet. -/
def Grl.reset : Grl :=
  { target := 0, commanded := 0, inEffect := 0, pending := none, unconfirmed := false, confirmTimer := none,
    parkHold := .stopped, peak := 0, parkedMs := 0, word := none, wordAgain := false, wordLeft := 0, earlierRise := false }

/-- A cleared header (R119; log 8). -/
def Header.cleared : Header :=
  { reference := 0, hold := 0, tier := 0, demand := 0, floor := 0, bound := none, binding := none, startClock := none }

/-- R119. -/
def Osc.reset : Osc :=
  { state := .idle, header := .cleared, sessionTime := 0, closeOrigin := .other, tripCause := none, closePhase := none,
    exhaustedFlag := false, forcedOpen := false, driveClosed := false, startTimer := none, mismatchTimer := none,
    closeTimer := none }

/-- R137, with the pulse filter as at entry to RUNNING. -/
def Mtf.reset : Mtf :=
  { pulse := .at false, capture := .off, counter := 0, lastInterval := none, lastEstimate := none, smoothed := 0,
    reseed := false, overDraw := 0, stray := 0 }

/-- R157, one outlet. -/
def TruOutlet.reset : TruOutlet :=
  { binding := none, outcome := .none, price := none, segment := none, faultNoWindow := false, faultOverlap := false,
    faultClockUnset := false }

/-- R157, power-on. -/
def Tru.reset : Tru :=
  { bankA := none, bankB := none, selected := .a, clock := { set := false, minute := 0, second := 0, milli := 0 } }

/-- R159 and R179: cleared accounts. -/
def Accounts.cleared : Accounts :=
  { segments := [], energy := 0, feeApplied := 0, occupancyMinutes := 0, occupancyAmount := 0, total := 0, dwellClock := 0,
    dwellMinutes := 0, stopped := false, tariffFault := false, saturated := false, capped := false }

/-- R179, power-on. -/
def Stu.reset : Stu := { queue := [], counter := 0, settleWait := [] }

/-- An outlet at power-on: the inactive levels of R95 and every block's power-on values. -/
def OutletState.reset : OutletState :=
  { hold := .at true, settled := .at false, fault := .at false, feedback := .at false, share := .reset, grl := .reset,
    osc := .reset, mtf := .reset, tru := .reset, acc := .cleared, heldRecord := none }

/-- R201, power-on: no flag set, all fifteen enabled, OK for NOP held; chip select high (log 9). -/
def Hpt.reset : Hpt :=
  { flags := 0, enable := 0x7FFF, held := { status := .ok, code := 1, payload := [] }, captured := none,
    pendingOpen := false, underWay := false, miso := [], misoReleased := true }

/-- The machine right after reset (R203): every block at its power-on values, LOADING with no image and no read under way. -/
def State.reset : State :=
  { pending := [], draws := 0, now := 0, phase := 0, clockTickDue := false, resetLow := false, configured := .loading none,
    eStop := .at false, slc := .reset, prs := .reset, shc := .reset, grl := .reset, tru := .reset, stu := .reset,
    hpt := .reset, outA := .reset, outB := .reset }

end Sys2Proof.Machine
end

