-- ==== Sys2Proof/Machine/Flags.lean ====
section
/-! DEFINITION. The fifteen event flags of the Host Port (R197), how they are raised and cleared, and ATTN (R200). -/

namespace Sys2Proof.Machine

/-- The event flags, in the order of R197. -/
inductive EventFlag where
  | restart
  | configFault
  | recordReady
  | queueFull
  | outletAChange
  | outletBChange
  | tripA
  | tripB
  | exhausted
  | tariffFault
  | lineMode
  | idConflict
  | limitMismatch
  | rosterOver
  | strayPulse
  deriving DecidableEq, Repr

/-- The flag's bit number in the event masks (R211: the order of R197). -/
def flagIndex : EventFlag → Nat
  | .restart => 0
  | .configFault => 1
  | .recordReady => 2
  | .queueFull => 3
  | .outletAChange => 4
  | .outletBChange => 5
  | .tripA => 6
  | .tripB => 7
  | .exhausted => 8
  | .tariffFault => 9
  | .lineMode => 10
  | .idConflict => 11
  | .limitMismatch => 12
  | .rosterOver => 13
  | .strayPulse => 14

/-- The flag alone, as a mask. -/
def flagMask (f : EventFlag) : BitVec 15 := BitVec.ofNat 15 (2 ^ flagIndex f)

/-- A flag is set (R197). -/
def State.flagSet (s : State) (f : EventFlag) : Bool := s.hpt.flags.getLsbD (flagIndex f)

/-- An owner raises a flag: it becomes set, or stays set (R197). -/
def raise (f : EventFlag) (s : State) : State := { s with hpt.flags := s.hpt.flags ||| flagMask f }

/-- OUTLET A CHANGE or OUTLET B CHANGE (R118). -/
def changeFlag : Outlet → EventFlag
  | .a => .outletAChange
  | .b => .outletBChange

/-- TRIP A or TRIP B (R118). -/
def tripFlag : Outlet → EventFlag
  | .a => .tripA
  | .b => .tripB

/-- ATTN is asserted while at least one flag is both set and enabled (R200). -/
def State.attn (s : State) : Bool := s.hpt.flags &&& s.hpt.enable != 0

end Sys2Proof.Machine
end

