-- ==== Sys2Proof/Machine/Ops.lean ====
section
/-! DEFINITION. The shared operations over the state: an outlet's part, the configuration in force, filters, counters, the
change of a session state, and the response that becomes held. -/

namespace Sys2Proof.Machine

/-- The part of the state that belongs to one outlet. -/
def State.out (s : State) : Outlet → OutletState
  | .a => s.outA
  | .b => s.outB

/-- The state with one outlet's part replaced. -/
def State.setOut (s : State) (o : Outlet) (x : OutletState) : State :=
  match o with
  | .a => { s with outA := x }
  | .b => { s with outB := x }

/-- The state with one outlet's part changed. -/
def State.modOut (s : State) (o : Outlet) (f : OutletState → OutletState) : State := s.setOut o (f (s.out o))

/-- The other outlet. -/
def otherOutlet : Outlet → Outlet
  | .a => .b
  | .b => .a

/-- The image in force (R202): there is one exactly while RUNNING. -/
def State.image? (s : State) : Option Image :=
  match s.configured with
  | .running im => some im
  | .loading _ => none
  | .unconfigured => none

/-- What only a RUNNING part does (R1, R44, R94, R121, R202); in LOADING and UNCONFIGURED nothing happens. -/
def whenRunning (s : State) (f : Image → State) : State :=
  match s.configured with
  | .running im => f im
  | .loading _ => s
  | .unconfigured => s

/-- The outlet is fitted: outlet A always, outlet B when the image declares two (R206). -/
def fitted (im : Image) : Outlet → Bool
  | .a => true
  | .b => im.outlets == 2

/-- What happens at a fitted outlet of a RUNNING part; the inputs and meter of an outlet not fitted are not sampled, and its
timers never run (R93, R120). -/
def whenFitted (s : State) (o : Outlet) (f : Image → State) : State :=
  whenRunning s fun im => if fitted im o then f im else s

/-- P_out of an outlet (R206). -/
def pOut (im : Image) : Outlet → Nat
  | .a => im.pOutA
  | .b => im.pOutB

/-- The configured weight of a tier (00, Symbols). -/
def tierWeight (im : Image) (tier : Nat) : Nat :=
  match tier with
  | 0 => im.weight0
  | 1 => im.weight1
  | 2 => im.weight2
  | _ => im.weight3

/-- A count that saturates at `max` (00, Arithmetic). -/
def satAdd (max n k : Nat) : Nat := min max (n + k)

/-- The successor of a count of range 0 to `max` whose rule says nothing of its end: past the end a free value in the range
(assumption log 3). The second component is the number of free values drawn. -/
def bump (max n draws : Nat) : Nat × Nat :=
  if n < max then (n + 1, draws) else (Config.pastRange draws % (max + 1), draws + 1)

/-- One sample of a filter (R94, R121): at the recognised level the run ends, at the other it grows. A run that has reached
the depth is a recognition that is due and waits to be taken. -/
def sampleFilter (depth : Nat) (f : Filter) : Filter :=
  if f.run ≥ depth then f
  else if f.pin = f.level then { f with run := 0 }
  else { f with run := f.run + 1 }

/-- The recognition of a level (R94, R121): the recognised level changes and the run count becomes 0. The pin has shown that
level for depth samples. -/
def recognise (level : Bool) (_ : Filter) : Filter := .at level

/-- The session states in which an outlet has a session, STARTING through CLOSING (Table 14, note). -/
def inSession : Session → Bool
  | .idle => false
  | .settleWait => false
  | .starting => true
  | .dispensing => true
  | .parked => true
  | .dwell => true
  | .exhausted => true
  | .tripped => true
  | .closing => true

/-- A change of session state raises the outlet's change event (R118). -/
def setSession (o : Outlet) (x : Session) (s : State) : State :=
  raise (changeFlag o) (s.modOut o fun u => { u with osc.state := x })

/-- A timer set to run out `ms` from now on the own timebase. -/
def State.timerIn (s : State) (ms : Nat) : Timer := some (s.now + ms)

/-- The quarter period, floor(share period / 4) ms (R7). -/
def quarterPeriod (im : Image) : Nat := im.sharePeriod / 4

/-- The response that becomes held at a command's finish (R182). -/
def respond (status : Status) (code : Nat) (payload : List Byte) (s : State) : State :=
  { s with hpt.held := { status := status, code := BitVec.ofNat 8 code, payload := payload } }

/-- A refusal: it carries no payload (R181). -/
def refuse (status : Status) (code : Nat) (s : State) : State := respond status code [] s

end Sys2Proof.Machine
end

