-- ==== Sys2Proof/Machine/Operands.lean ====
section
/-! DEFINITION. The forms of the host's operands: outlet and bank codes (R211), and the clamps of demand and floor (R187). -/

namespace Sys2Proof.Machine

/-- Outlet A is 0 and outlet B is 1; another code names nothing (R211). -/
def outletOf (x : Byte) : Option Outlet :=
  if x = 0 then some .a else if x = 1 then some .b else none

/-- Bank A is 0 and bank B is 1; another code names nothing (R211). -/
def bankOf (x : Byte) : Option Bank :=
  if x = 0 then some .a else if x = 1 then some .b else none

/-- The applied demand: a demand above P_out is taken as P_out (R187). -/
def appliedDemand (im : Image) (o : Outlet) (demand : BitVec 16) : Nat := min demand.toNat (pOut im o)

/-- The applied floor: a floor above the applied demand is taken as that demand (R187). -/
def appliedFloor (im : Image) (o : Outlet) (demand floor : BitVec 16) : Nat :=
  min floor.toNat (appliedDemand im o demand)

/-- The event set a 16-bit mask names; a mask with bit 15 set names a member outside the fifteen flags (Table 23). -/
def flagSetOf (x : BitVec 16) : Option (BitVec 15) :=
  if x.getLsbD 15 then none else some (x.extractLsb' 0 15)

/-- The 16-bit mask of an event set; bit 15 is 0. -/
def maskOf (x : BitVec 15) : BitVec 16 := x.setWidth 16

end Sys2Proof.Machine
end

