-- ==== Sys2Proof/Machine/BankImage.lean ====
section
/-! DEFINITION. The tariff bank image: layout (Tables 25 and 26) and the tests of a load (R141). -/

namespace Sys2Proof.Machine

/-- The window of six bytes at an offset (Table 26); bits sent 0 are not examined (R211). -/
def windowAt (l : List Byte) (i : Nat) : Window :=
  let head := l.getD i 0
  { enabled := head.getLsbD 7, site := head.extractLsb' 5 2, days := head.extractLsb' 0 2,
    first := l.getD (i + 1) 0, last := l.getD (i + 2) 0, tiers := (l.getD (i + 3) 0).extractLsb' 0 4,
    price := word16 (l.getD (i + 4) 0) (l.getD (i + 5) 0) }

/-- The contents of a bank image (Table 25); window w stands at 9 + 6 × w. -/
def bankItems (l : List Byte) : BankContents :=
  { version := word16 (l.getD 0 0) (l.getD 1 0), sessionFee := word16 (l.getD 2 0) (l.getD 3 0),
    occupancyFee := word16 (l.getD 4 0) (l.getD 5 0), grace := l.getD 6 0,
    fallback := word16 (l.getD 7 0) (l.getD 8 0),
    windows := #v[windowAt l 9, windowAt l 15, windowAt l 21, windowAt l 27, windowAt l 33, windowAt l 39,
      windowAt l 45, windowAt l 51] }

/-- The six bytes of a window (Table 26); bits sent 0 are 0. -/
def windowBytes (w : Window) : List Byte :=
  [(if w.enabled then 128 else 0) ||| (w.site.setWidth 8 <<< 5) ||| w.days.setWidth 8, w.first, w.last,
    w.tiers.setWidth 8] ++ bytes16 w.price

/-- The 57-byte image of a bank (Table 25). -/
def bankBytes (b : BankContents) : List Byte :=
  bytes16 b.version ++ bytes16 b.sessionFee ++ bytes16 b.occupancyFee ++ [b.grace] ++ bytes16 b.fallback ++
    b.windows.toList.flatMap windowBytes

/-- An enabled window's tests at a load (R141): slots at most 95, day set and tier set not empty, a site condition that names
one of the three. A disabled window is not examined. -/
def windowLoads (w : Window) : Bool :=
  !w.enabled || (decide (w.first.toNat ≤ 95) && decide (w.last.toNat ≤ 95) && w.days != 0 && w.tiers != 0 && w.site != 3)

/-- The last three conditions of R141 find nothing. -/
def bankLoads (b : BankContents) : Bool := b.windows.toList.all windowLoads

/-- The bank named (R138). -/
def Tru.bank (t : Tru) : Bank → Option BankContents
  | .a => t.bankA
  | .b => t.bankB

/-- The bank named, replaced (R142). -/
def Tru.load (t : Tru) (b : Bank) (x : BankContents) : Tru :=
  match b with
  | .a => { t with bankA := some x }
  | .b => { t with bankB := some x }

end Sys2Proof.Machine
end

