-- ==== Sys2Proof/Machine/Pricing.lean ====
section
/-! DEFINITION. The Tariff Unit's work (spec/07): the clock, binding, and the price lookup of one billed pulse. -/

namespace Sys2Proof.Machine

/-- The tariff clock after one 1 ms tick (R147); an UNSET clock does not advance. -/
def advanceClock (c : Clock) : Clock :=
  if !c.set then c
  else if c.milli + 1 < 1000 then { c with milli := c.milli + 1 }
  else if c.second + 1 < 60 then { c with milli := 0, second := c.second + 1 }
  else if c.minute + 1 < 10080 then { c with milli := 0, second := 0, minute := c.minute + 1 }
  else { c with milli := 0, second := 0, minute := 0 }

/-- The day of a minute-of-week (R149). -/
def dayOf (minute : Nat) : Nat := minute / 1440

/-- The slot of a minute-of-week (R149). -/
def slotOf (minute : Nat) : Nat := (minute - 1440 * dayOf minute) / 15

/-- The minute falls on a WEEKEND day of the configured weekend set (R149). -/
def onWeekend (im : Image) (minute : Nat) : Bool := im.weekend.getLsbD (dayOf minute)

/-- A window's slot range holds a slot, with the wrap past midnight (R140). -/
def coversSlot (w : Window) (slot : Nat) : Bool :=
  if w.first.toNat ≤ w.last.toNat then decide (w.first.toNat ≤ slot) && decide (slot ≤ w.last.toNat)
  else decide (w.first.toNat ≤ slot) || decide (slot ≤ w.last.toNat)

/-- A window's site condition fits the site-busy flag (R151): ANY both, QUIET false, BUSY true. -/
def fitsSite (code : SiteCode) (busy : Bool) : Bool := code == 0 || (code == 1 && !busy) || (code == 2 && busy)

/-- A window matches a key (R151). -/
def windowMatches (w : Window) (slot : Nat) (weekend : Bool) (tier : Nat) (busy : Bool) : Bool :=
  w.enabled && coversSlot w slot && w.days.getLsbD (if weekend then 1 else 0) && w.tiers.getLsbD tier &&
    fitsSite w.site busy

/-- The indexes of the windows that match (R151). -/
def matching (b : BankContents) (slot : Nat) (weekend : Bool) (tier : Nat) (busy : Bool) : List Nat :=
  (List.range 8).filter fun i =>
    match b.windows.toList[i]? with
    | some w => windowMatches w slot weekend tier busy
    | none => false

/-- The price of a window by its index. -/
def windowPrice (b : BankContents) (i : Nat) : Nat :=
  match b.windows.toList[i]? with
  | some w => w.price.toNat
  | none => 0

/-- The outcome of a lookup with the price and the segment handed on (R152). -/
structure Priced where
  outcome : Lookup
  price : Nat
  segment : SegmentKey
  deriving DecidableEq, Repr

/-- R152, from the matching windows. -/
def outcomeOf (b : BankContents) : List Nat → Priced
  | [] => { outcome := .noWindow, price := b.fallback.toNat, segment := .fallback }
  | [i] => { outcome := .found, price := windowPrice b i, segment := .window i }
  | _ :: _ :: _ => { outcome := .overlap, price := b.fallback.toNat, segment := .fallback }

/-- One lookup in a bank (R149 to R152). -/
def lookup (im : Image) (clock : Clock) (busy : Bool) (tier : Nat) (b : BankContents) : Priced :=
  if !clock.set then { outcome := .clockUnset, price := b.fallback.toNat, segment := .fallback }
  else outcomeOf b (matching b (slotOf clock.minute) (onWeekend im clock.minute) tier busy)

/-- The outcome is a tariff fault (R152). -/
def isTariffFault : Lookup → Bool
  | .noWindow => true
  | .overlap => true
  | .clockUnset => true
  | .found => false
  | .none => false

/-- The contents of a bank that no bound session has: a session's bank is LOADED while bound (R145). -/
def emptyBank : BankContents :=
  { version := 0, sessionFee := 0, occupancyFee := 0, grace := 0, fallback := 0,
    windows := Vector.replicate 8
      { enabled := false, site := 0, days := 0, first := 0, last := 0, tiers := 0, price := 0 } }

/-- The contents of the bank an outlet's session is bound to (R145). -/
def boundBank (s : State) (o : Outlet) : BankContents :=
  match (s.out o).tru.binding with
  | some b => (s.tru.bank b).getD emptyBank
  | none => emptyBank

/-- The lookup of a billed pulse at an outlet, from what stands at that moment (R150). -/
def priceAt (im : Image) (s : State) (o : Outlet) : Priced :=
  lookup im s.tru.clock s.shc.busy (s.out o).osc.header.tier (boundBank s o)

/-- The lookup state of an outlet after a lookup: last outcome, price and segment, and the fault set (R152, R153). -/
def recordLookup (p : Priced) (t : TruOutlet) : TruOutlet :=
  { t with
    outcome := p.outcome, price := some p.price, segment := some p.segment
    faultNoWindow := t.faultNoWindow || p.outcome == .noWindow
    faultOverlap := t.faultOverlap || p.outcome == .overlap
    faultClockUnset := t.faultClockUnset || p.outcome == .clockUnset }

/-- The lookup of one billed pulse (R150 to R153): the outlet's lookup state, and TARIFF FAULT at a fault. -/
def noteLookup (o : Outlet) (p : Priced) (s : State) : State :=
  let s := s.modOut o fun u => { u with tru := recordLookup p u.tru }
  if isTariffFault p.outcome then raise .tariffFault s else s

/-- The binding of a session (R145): the selected bank, and cleared lookup state. -/
def bindSession (b : Bank) (_ : TruOutlet) : TruOutlet := { TruOutlet.reset with binding := some b }

/-- An outlet in STARTING through CLOSING is bound to the bank (R141). -/
def bankInUse (s : State) (b : Bank) : Bool :=
  [Outlet.a, Outlet.b].any fun o => inSession (s.out o).osc.state && (s.out o).tru.binding == some b

end Sys2Proof.Machine
end

