-- ==== Sys2Proof/Machine/Accounts.lean ====
section
/-! DEFINITION. The Settlement Unit's work (spec/08): accrual of a pulse, the credit threshold, occupancy, and the settlement
record with its queue. -/

namespace Sys2Proof.Machine

/-- The end of the amount accumulators' range, 2^40 − 1 micro-units (R162). -/
def maxAmount : Nat := 1099511627775

/-- The end of the range of the session energy and of 32-bit counts (R158, R161). -/
def max32 : Nat := 4294967295

/-- Micro-units of one minor unit (00, Money). -/
def microPerMinor : Nat := 10000

/-- The energy and amount of a pulse added to the segment of its key; a new key is appended (R160 steps 2, 3 and 5). -/
def addToSegment (key : SegmentKey) (energy amount : Nat) : List Segment → List Segment
  | [] => [{ key := key, energy := energy, amount := satAdd maxAmount 0 amount }]
  | g :: gs =>
    if g.key = key then { g with energy := g.energy + energy, amount := satAdd maxAmount g.amount amount } :: gs
    else g :: addToSegment key energy amount gs

/-- The amount of the segment of a key; 0 where there is none. -/
def segmentAmount (key : SegmentKey) (gs : List Segment) : Nat :=
  match gs.find? fun g => g.key == key with
  | some g => g.amount
  | none => 0

/-- An addition that would take an amount accumulator past its range (R162). -/
def overflows (n k : Nat) : Bool := decide (maxAmount < n + k)

/-- The session fee, at the first accrued pulse (R163). -/
def chargeFee (fee : Nat) (a : Accounts) : Accounts :=
  { a with
    feeApplied := fee
    total := satAdd maxAmount a.total (fee * microPerMinor)
    saturated := a.saturated || overflows a.total (fee * microPerMinor) }

/-- R160 steps 2 to 5: a pulse within the energy limit into its segment, the session energy and the running total. -/
def addPulse (key : SegmentKey) (weight price : Nat) (a : Accounts) : Accounts :=
  { a with
    segments := addToSegment key weight (weight * price) a.segments
    energy := a.energy + weight
    total := satAdd maxAmount a.total (weight * price)
    saturated := a.saturated || overflows a.total (weight * price) ||
      overflows (segmentAmount key a.segments) (weight * price) }

/-- The accrual of one billed pulse (R160, R161): past the energy limit nothing is accrued and SATURATED is marked; a marked
fault adds TARIFF FAULT in either case. -/
def accrue (weight fee : Nat) (p : Priced) (a : Accounts) : Accounts :=
  let a' :=
    if max32 < a.energy + weight then { a with saturated := true }
    else if a.energy = 0 then chargeFee fee (addPulse p.segment weight p.price a)
    else addPulse p.segment weight p.price a
  { a' with tariffFault := a'.tariffFault || isTariffFault p.outcome }

/-- Credit is reached (R164): the running total is at least hold × 10,000 − stop reserve × price, a signed threshold. -/
def creditReached (hold stopReserve price total : Nat) : Bool :=
  decide ((hold : Int) * microPerMinor - stopReserve * price ≤ total)

/-- A dwell period begins (R166). -/
def beginDwell (a : Accounts) : Accounts := { a with dwellClock := 0, dwellMinutes := 0 }

/-- One chargeable dwell minute against the cap hold × 10,000 (R167); the second component counts the free values drawn. -/
def chargeMinute (hold fee : Nat) (a : Accounts) (draws : Nat) : Accounts × Nat :=
  let cap := hold * microPerMinor
  if cap ≤ a.total then ({ a with capped := true, stopped := true }, draws)
  else
    let minutes := bump max32 a.occupancyMinutes draws
    let total := satAdd maxAmount a.total (fee * microPerMinor)
    ({ a with
        occupancyMinutes := minutes.1
        occupancyAmount := satAdd maxAmount a.occupancyAmount (fee * microPerMinor)
        total := total
        saturated := a.saturated || overflows a.total (fee * microPerMinor) ||
          overflows a.occupancyAmount (fee * microPerMinor)
        capped := a.capped || decide (cap ≤ total)
        stopped := a.stopped || decide (cap ≤ total) },
      minutes.2)

/-- The largest number of whole minutes of the dwell clock (R158). -/
def maxDwellMinutes : Nat := 71582

/-- A completed dwell minute (R166): the clock stands at that multiple of 60,000, and a minute past the grace is chargeable. -/
def dwellMinute (hold : Nat) (b : BankContents) (a : Accounts) (draws : Nat) : Accounts × Nat :=
  let minutes := bump maxDwellMinutes a.dwellMinutes draws
  let a' := { a with dwellMinutes := minutes.1, dwellClock := 60000 * minutes.1 }
  if minutes.1 ≤ b.grace.toNat then (a', minutes.2) else chargeMinute hold b.occupancyFee.toNat a' minutes.2

/-- The total in minor units, half a unit rounded up, once (R169). -/
def totalOf (running : Nat) : Nat := (running + 5000) / microPerMinor

/-- The end cause (R115). -/
def endCause (c : Osc) : EndCause :=
  match c.tripCause with
  | some t => .tripped t
  | none => if c.closeOrigin = .starting then .aborted else .hostClose

/-- The record of a session at the completion of its close (R168 to R171), without a sequence number (R175); the header's record of the
binding has not been cleared yet (R138, R168). -/
def buildRecord (o : Outlet) (u : OutletState) : Record :=
  let total := totalOf u.acc.total
  let hold := u.osc.header.hold
  { sequence := 0, outlet := o, reference := u.osc.header.reference, bound := u.osc.header.binding, tier := u.osc.header.tier,
    startClock := u.osc.header.startClock, duration := u.osc.sessionTime / 1000, endCause := endCause u.osc,
    energy := u.acc.energy, segments := u.acc.segments, feeApplied := u.acc.feeApplied,
    occupancyMinutes := u.acc.occupancyMinutes, occupancyAmount := u.acc.occupancyAmount, total := total,
    settled := min total hold, hold := hold, uncollected := total - min total hold, parkedSeconds := u.grl.parkedMs / 1000,
    peak := u.grl.peak, tariffFault := u.acc.tariffFault, saturated := u.acc.saturated,
    capped := u.acc.capped || decide (0 < total - min total hold), exhausted := u.osc.exhaustedFlag,
    forcedOpen := u.osc.forcedOpen }

/-- The account flags after the build: CAPPED is added when something is uncollected (R170). -/
def capAccounts (r : Record) (a : Accounts) : Accounts := { a with capped := r.capped }

/-- The queue's length (R173). -/
def queueLimit : Nat := 8

/-- A record enters the queue (R174): it takes the counter's value, the counter advances, and RECORD READY and QUEUE FULL are
raised at an entry into an empty queue and at the eighth record. -/
def enterQueue (r : Record) (s : State) : State :=
  let wasEmpty := s.stu.queue.isEmpty
  let s := { s with
    stu.queue := s.stu.queue ++ [{ r with sequence := s.stu.counter }]
    stu.counter := s.stu.counter + 1 }
  let s := if wasEmpty then raise .recordReady s else s
  if s.stu.queue.length = queueLimit then raise .queueFull s else s

end Sys2Proof.Machine
end

