-- ==== Sys2Proof/Machine/Announce.lean ====
section
/-! DEFINITION. The announced values (R4, R29, R70) and what an update of them does to the transmit slot (R8). -/

namespace Sys2Proof.Machine

/-- One id as a heard set: bit n for id n (R211). -/
def idBit (id : Nat) : BitVec 32 := BitVec.ofNat 32 (2 ^ id)

/-- The own heard set: the ids of the FRESH entries (R29). -/
def heardSet (roster : List Entry) : BitVec 32 :=
  roster.foldl (fun h e => if e.fresh then h ||| idBit e.id else h) 0

/-- An outlet's claim, from its session state and split demand (R4, R70). -/
def ownClaim (im : Image) (u : OutletState) : Claim :=
  match u.osc.state with
  | .dispensing =>
    { present := true, demand := u.share.split, weight := tierWeight im u.osc.header.tier, parked := false }
  | .parked => { present := true, demand := 0, weight := tierWeight im u.osc.header.tier, parked := true }
  | .idle | .starting | .dwell | .exhausted | .tripped | .closing | .settleWait =>
    { present := false, demand := 0, weight := 1, parked := false }

/-- Station granted: the sum of the in-effect grants (R70). -/
def stationGranted (s : State) : Nat := s.outA.grl.inEffect + s.outB.grl.inEffect

/-- Station intended: the sum of the larger of in-effect grant and pending rise (R70). -/
def stationIntended (s : State) : Nat :=
  max s.outA.grl.inEffect (s.outA.grl.pending.getD 0) + max s.outB.grl.inEffect (s.outB.grl.pending.getD 0)

/-- The values an ANNOUNCE would carry now (R4). -/
def announced (im : Image) (s : State) : Announced :=
  { mode := s.prs.mode, limit := im.limit, granted := stationGranted s, intended := stationIntended s,
    claimA := ownClaim im s.outA, claimB := ownClaim im s.outB, heard := heardSet s.prs.roster }

/-- R8 is in force: not in the LEAVE wait (R20), and not while BARRED (R11). -/
def announces (s : State) : Bool := !s.slc.leaveWait && s.slc.tx != .barred

/-- The slot an update makes of EMPTY: DEFERRED to one quarter period after the last completion if that is less than a
quarter period ago, DUE otherwise (R8). -/
def slotAtUpdate (im : Image) (s : State) : Slot :=
  match s.slc.lastDone with
  | some t => if s.now < t + quarterPeriod im then .deferred (t + quarterPeriod im) else .due .announce
  | none => .due .announce

/-- An event that may have updated announced values, which stood at `before` (R8): where they changed and now differ from the
reference copy, an EMPTY slot becomes DEFERRED or DUE; every other slot stays. -/
def noteUpdate (im : Image) (before : Announced) (s : State) : State :=
  if announced im s ≠ before ∧ s.slc.reference ≠ some (announced im s) ∧ s.slc.slot = .empty ∧ announces s = true then
    { s with slc.slot := slotAtUpdate im s }
  else s

/-- One effect of an event on announced values, with the update it makes at that moment (R8, R70). -/
def noted (im : Image) (effect : State → State) (s : State) : State := noteUpdate im (announced im s) (effect s)

/-- The share-period tick's cause (R8): EMPTY, DEFERRED and DUE become DUE, SENDING is marked tick-owed. -/
def tickCause (s : State) : State :=
  if announces s then
    match s.slc.slot with
    | .sending _ => { s with slc.tickOwed := true }
    | .empty => { s with slc.slot := .due .announce }
    | .deferred _ => { s with slc.slot := .due .announce }
    | .due _ => s
  else s

end Sys2Proof.Machine
end

