-- ==== Sys2Proof/Machine/Frame.lean ====
section
/-! DEFINITION. The share-line frames: check, stuffing, layouts of the two kinds, and the setpoint word (R2 to R6, Tables 20 and
21, R213). -/

namespace Sys2Proof.Machine

/-- One content bit into the check register (R6 steps 2 and 3): shift up, and where the bit shifted out differs from the
content bit invert bits 12, 5 and 0. -/
def crcBit (r : BitVec 16) (b : Bool) : BitVec 16 :=
  if r.getLsbD 15 != b then (r <<< 1) ^^^ 0x1021 else r <<< 1

/-- The check register after the bits given, from a start value. -/
def crcFrom (r : BitVec 16) (bits : List Bool) : BitVec 16 := bits.foldl crcBit r

/-- The check of a run of bytes: the register starts at all ones (R6). -/
def checkOf (content : List Byte) : BitVec 16 := crcFrom 0xFFFF (bitsOf content)

/-- The content with its check in the last two bytes, more significant first (R6). -/
def withCheck (content : List Byte) : List Byte := content ++ bytes16 (checkOf content)

/-- The check of a received frame is good when the register ends at 0 (R6). -/
def checkGood (frame : List Byte) : Bool := crcFrom 0xFFFF (bitsOf frame) == 0

/-- The stuffed bits that follow a run of `run` bits of level `cur` (R2): after four equal bits, one of the other level, which
is the first bit of the next run. -/
def stuffAfter : Bool → Nat → List Bool → List Bool
  | _, _, [] => []
  | cur, run, b :: bs =>
    let run' := if b = cur then run + 1 else 1
    if run' = 4 then b :: (!b) :: stuffAfter (!b) 1 bs else b :: stuffAfter b run' bs

/-- The stuffed region of a frame: the start bit, dominant, counts toward the runs (R2). -/
def stuffed (content : List Bool) : List Bool := stuffAfter false 1 content

/-- A receiver's removal of stuff bits after a run (R2): a bit of the same level as the four before it is a stuff violation
(none). A stuff bit owed after the last content bit is awaited as well. -/
def unstuffAfter : Bool → Nat → List Bool → Option (List Bool)
  | _, run, [] => if run = 4 then none else some []
  | cur, run, b :: bs =>
    if run = 4 then
      if b = cur then none else unstuffAfter b 1 bs
    else
      (unstuffAfter b (if b = cur then run + 1 else 1) bs).map (b :: ·)

/-- The content bits of a stuffed region, or none at a stuff violation (R2, R14). -/
def unstuffed (bits : List Bool) : Option (List Bool) := unstuffAfter false 1 bits

/-- The bits a sender drives for a frame: dominant start bit, stuffed region, recessive length mark, recessive acknowledge
slot (R2, R10). -/
def lineBits (frame : List Byte) : List Bool := false :: stuffed (bitsOf frame) ++ [true, true]

/-- The abort pattern: six dominant bits (R12). -/
def abortPattern : List Bool := List.replicate 6 false

/-- The acknowledge slot driven dominant (R16). -/
def acknowledgeBit : List Bool := [false]

/-- The code of a line mode (R211). -/
def lineModeCode : LineMode → Nat
  | .joined => 0
  | .halfHeard => 1
  | .isolated => 2

/-- The line mode of a two-bit code; 3 names none (Table 20). -/
def lineModeOf : Nat → Option LineMode
  | 0 => some .joined
  | 1 => some .halfHeard
  | 2 => some .isolated
  | _ => none

/-- The arbitration field: kind bit × 128 + id × 4 + 3 (R3). -/
def arbitrationField (kind : FrameKind) (id : Nat) : Nat :=
  (match kind with
    | .leave => 0
    | .announce => 128) + id * 4 + 3

/-- The three bytes of a claim (Table 20, bytes 9 to 11). -/
def claimBytes (c : Claim) : List Byte :=
  be 2 c.demand ++
    be 1 ((if c.present then 128 else 0) + (if c.parked then 64 else 0) + c.weight % 16)

/-- Bytes 0 to 18 of an ANNOUNCE (Table 20). -/
def announceContent (id : Nat) (sequence : Byte) (c : Announced) : List Byte :=
  be 1 (arbitrationField .announce id) ++ [sequence] ++ be 1 (lineModeCode c.mode * 64) ++ be 2 c.limit ++
    be 2 c.granted ++ be 2 c.intended ++ claimBytes c.claimA ++ claimBytes c.claimB ++ bytes32 c.heard

/-- The 21 bytes of an ANNOUNCE (Table 20). -/
def announceBytes (id : Nat) (sequence : Byte) (c : Announced) : List Byte := withCheck (announceContent id sequence c)

/-- The 4 bytes of a LEAVE (Table 21). -/
def leaveBytes (id : Nat) (sequence : Byte) : List Byte :=
  withCheck (be 1 (arbitrationField .leave id) ++ [sequence])

/-- The bytes of an own frame. -/
def frameBytes (id : Nat) : OwnFrame → List Byte
  | .announce sequence content => announceBytes id sequence content
  | .leave sequence => leaveBytes id sequence

/-- The sender's id in a frame's arbitration field (R3). -/
def frameId (frame : List Byte) : Nat := u8At frame 0 / 4 % 32

/-- Both filler bits are recessive (R3, R15). -/
def fillersRecessive (frame : List Byte) : Bool := u8At frame 0 % 4 == 3

/-- The sequence a frame carries. -/
def frameSequence (frame : List Byte) : Byte := frame.getD 1 0

/-- A received claim with the clamps of R18: a clear present flag makes it absent, a demand above 6000 is taken as 6000 and a
weight of 0 as 1. -/
def receivedClaim (frame : List Byte) (i : Nat) : Claim :=
  let x := u8At frame (i + 2)
  if x / 128 % 2 = 1 then
    { present := true, demand := min 6000 (u16At frame i), weight := max 1 (x % 16), parked := x / 64 % 2 == 1 }
  else { present := false, demand := 0, weight := 1, parked := false }

/-- The heard set a frame carries, without a membership of id 0 (R18). -/
def receivedHeard (frame : List Byte) : BitVec 32 :=
  word32 (frame.getD 15 0) (frame.getD 16 0) (frame.getD 17 0) (frame.getD 18 0) &&& 0xFFFFFFFE

/-- The content of a received ANNOUNCE as delivered (R18); none where its line mode code names no mode (R15). -/
def receivedAnnounce (frame : List Byte) : Option Announced :=
  (lineModeOf (u8At frame 2 / 64)).map fun mode =>
    { mode := mode, limit := u16At frame 3, granted := u16At frame 5, intended := u16At frame 7,
      claimA := receivedClaim frame 9, claimB := receivedClaim frame 12, heard := receivedHeard frame }

/-- The 24 data bits of a setpoint word (R213): the setpoint, then 255 minus the sum of its two bytes modulo 256. -/
def setpointWord (steps : Nat) : BitVec 24 :=
  BitVec.ofNat 24 (steps * 256 + (255 - (steps / 256 + steps % 256) % 256))

/-- The 26 bits of a setpoint word on SETPT (R213): a LOW start bit, the data bits, a HIGH stop bit; a 1 is HIGH. -/
def setptWord (steps : Nat) : BitVec 26 := (0#1 ++ setpointWord steps) ++ 1#1

end Sys2Proof.Machine
end

