-- ==== Sys2Proof/Machine/Share.lean ====
section
/-! DEFINITION. The Share Calculator (spec/03): weighted water-filling, the pedestal split, the reservations and available
power, the site split, the site-busy flag, the hypothetical shares and the headroom. -/

namespace Sys2Proof.Machine

/-- One claimant of a run (R49): an own outlet, or a peer's claim (`own` none). -/
structure Claimant where
  own : Option Outlet
  demand : Nat
  weight : Nat
  deriving DecidableEq, Repr

/-- The sum of the demands of a set of claimants. -/
def demandSum (cs : List Claimant) : Nat := (cs.map Claimant.demand).sum

/-- W: the sum of d × w (R50 step 1). -/
def weightSum (cs : List Claimant) : Nat := (cs.map fun c => c.demand * c.weight).sum

/-- A claimant's provisional share of a round: floor(V × d × w / W) (R50 step 2). -/
def provisional (v w : Nat) (c : Claimant) : Nat := v * c.demand * c.weight / w

/-- The claimant settles in the round: its provisional share is at least its demand (R50 step 3). -/
def settles (v w : Nat) (c : Claimant) : Bool := decide (c.demand ≤ provisional v w c)

/-- The rounds of R50. Every round before the last settles a claimant, so as many rounds as claimants are enough (R52). -/
def rounds : Nat → Nat → List Claimant → List (Claimant × Nat)
  | 0, _, cs => cs.map fun c => (c, 0)
  | n + 1, v, cs =>
    let w := weightSum cs
    let done := cs.filter (settles v w)
    let rest := cs.filter fun c => !settles v w c
    if done.isEmpty then cs.map fun c => (c, provisional v w c)
    else done.map (fun c => (c, c.demand)) ++ rounds n (v - demandSum done) rest

/-- One run of the procedure (R49): every claimant with its share. -/
def waterFill (v : Nat) (cs : List Claimant) : List (Claimant × Nat) :=
  if demandSum cs ≤ v then cs.map fun c => (c, c.demand) else rounds cs.length v cs

/-- The share a run gave an own outlet; 0 for one that is not a claimant (R60). -/
def shareOf (o : Outlet) (shares : List (Claimant × Nat)) : Nat :=
  match shares.find? fun x => x.1.own == some o with
  | some x => x.2
  | none => 0

/-- The raw demand D of an outlet (R54). -/
def rawDemand (im : Image) (s : State) (o : Outlet) : Nat :=
  if fitted im o then
    match (s.out o).osc.state with
    | .dispensing => min (s.out o).osc.header.demand (pOut im o)
    | .parked => min (s.out o).osc.header.demand (pOut im o)
    | .idle | .starting | .dwell | .exhausted | .tripped | .closing | .settleWait => 0
  else 0

/-- The weight of an outlet's session (R54). -/
def sessionWeight (im : Image) (s : State) (o : Outlet) : Nat := tierWeight im (s.out o).osc.header.tier

/-- The outlet claims in the pedestal split: DISPENSING, or added back for its hypothetical share (R54, R64). -/
def claims (s : State) (added : Option Outlet) (o : Outlet) : Bool :=
  (s.out o).osc.state == .dispensing || added == some o

/-- The claimants of the pedestal split with raw demand at least 1 (R55). -/
def pedestalClaimants (im : Image) (s : State) (added : Option Outlet) : List Claimant :=
  [Outlet.a, Outlet.b].filterMap fun o =>
    if claims s added o && decide (1 ≤ rawDemand im s o) then
      some { own := some o, demand := rawDemand im s o, weight := sessionWeight im s o }
    else none

/-- Stage 2: an outlet's split demand D' (R55); `added` is the outlet added back, if any (R64). -/
def splitDemand (im : Image) (s : State) (added : Option Outlet) (o : Outlet) : Nat :=
  shareOf o (waterFill im.pMax (pedestalClaimants im s added))

/-- The isolated share (R56). -/
def isolatedShare (im : Image) (s : State) : Nat := (s.prs.lEff - im.guard) / s.prs.nEff

/-- The stale reservation R, held at 40000 (R57). -/
def staleReservation (s : State) : Nat :=
  min 40000 (((s.prs.roster.filter fun e => !e.fresh).map fun e => max e.granted e.intended).sum)

/-- The sum S over FRESH entries of the larger of granted and intended (R65). -/
def freshCommitment (s : State) : Nat :=
  ((s.prs.roster.filter fun e => e.fresh).map fun e => max e.granted e.intended).sum

/-- The available power A (R58). -/
def availablePower (im : Image) (s : State) : Nat :=
  match s.prs.mode with
  | .joined => s.prs.lEff - (im.guard + staleReservation s + s.prs.unseen * isolatedShare im s)
  | .halfHeard | .isolated => isolatedShare im s

/-- A peer's claim as a site claimant: present, not parked, demand at least 1 (R59). -/
def peerClaimant (c : Claim) : Option Claimant :=
  if c.present && !c.parked && decide (1 ≤ c.demand) then some { own := none, demand := c.demand, weight := c.weight }
  else none

/-- The claims of the FRESH entries (R59). -/
def peerClaimants (s : State) : List Claimant :=
  (s.prs.roster.filter fun e => e.fresh).flatMap fun e =>
    (peerClaimant e.claimA).toList ++ (peerClaimant e.claimB).toList

/-- The own site claimants: split demand at least 1 (R59, R61). -/
def ownClaimants (im : Image) (s : State) (added : Option Outlet) : List Claimant :=
  [Outlet.a, Outlet.b].filterMap fun o =>
    let d := splitDemand im s added o
    if 1 ≤ d then some { own := some o, demand := d, weight := sessionWeight im s o } else none

/-- The claimants of the site split: own and peers in JOINED, own alone otherwise (R59, R61). -/
def siteClaimants (im : Image) (s : State) (added : Option Outlet) : List Claimant :=
  match s.prs.mode with
  | .joined => ownClaimants im s added ++ peerClaimants s
  | .halfHeard | .isolated => ownClaimants im s added

/-- Stage 4: an outlet's share of the site split (R60, R61). -/
def siteShare (im : Image) (s : State) (added : Option Outlet) (o : Outlet) : Nat :=
  shareOf o (waterFill (availablePower im s) (siteClaimants im s added))

/-- The hypothetical share: for a PARKED outlet alone, with the outlet added back; 0 from a raw demand of 0 (R64). -/
def hypotheticalShare (im : Image) (s : State) (o : Outlet) : Option Nat :=
  if fitted im o && (s.out o).osc.state == .parked then
    some (if rawDemand im s o = 0 then 0 else siteShare im s (some o) o)
  else none

/-- The site-busy flag (R62). -/
def siteBusy (im : Image) (s : State) : Bool :=
  match s.prs.mode with
  | .joined =>
    let cs := siteClaimants im s none
    !cs.isEmpty && decide (s.prs.lEff * im.busyPercent / 100 ≤ demandSum cs)
  | .halfHeard | .isolated => false

/-- One outlet's part of the result (R45). -/
def shareResult (im : Image) (s : State) (o : Outlet) : Share :=
  { raw := rawDemand im s o, split := splitDemand im s none o, target := siteShare im s none o,
    hypothetical := hypotheticalShare im s o }

/-- The whole result is replaced at once (R45, R46). -/
def compute (im : Image) (s : State) : State :=
  { s with
    shc := { iso := isolatedShare im s, available := availablePower im s, busy := siteBusy im s }
    outA.share := shareResult im s .a
    outB.share := shareResult im s .b }

/-- The headroom H (R65), from the roster and the mode as they stand. -/
def headroom (im : Image) (s : State) : Nat :=
  match s.prs.mode with
  | .joined =>
    s.prs.lEff - (im.guard + freshCommitment s + staleReservation s + s.prs.unseen * isolatedShare im s)
  | .halfHeard | .isolated => isolatedShare im s

end Sys2Proof.Machine
end

