-- ==== Sys2Proof/Machine/Grant.lean ====
section
/-! DEFINITION. The Grant Logic (spec/04): setpoint words, decreases, rises, parking and resumption, the hand-over, and the
computation with the hand-overs it causes. -/

namespace Sys2Proof.Machine

/-- The 0.1 ms units a setpoint word takes: 260 µs, rounded up (R213; assumption log 10). -/
def wordUnits : Nat := 3

/-- A word is begun with the commanded setpoint as it stands (R71). -/
def beginWord (g : Grl) : Grl := { g with word := some (setptWord g.commanded), wordAgain := false, wordLeft := wordUnits }

/-- The level of SETPT in a bit time of the word being sent, `true` for HIGH; with no word it rests HIGH (R213). -/
def setptLevel (g : Grl) (bit : Nat) : Bool :=
  match g.word with
  | some w => w.getMsbD bit
  | none => true

/-- A word is sent; during a word, one further word is owed (R71). -/
def sendWord (g : Grl) : Grl :=
  match g.word with
  | some _ => { g with wordAgain := true }
  | none => beginWord g

/-- Neither outlet has a pending rise. -/
def noPending (s : State) : Bool := s.outA.grl.pending.isNone && s.outB.grl.pending.isNone

/-- Neither outlet has a decrease unconfirmed. -/
def noneUnconfirmed (s : State) : Bool := !s.outA.grl.unconfirmed && !s.outB.grl.unconfirmed

/-- The rise hold stops and the rise-waiting flag clears when neither outlet is left with a pending rise (R76). -/
def settleRises (s : State) : State :=
  if noPending s then { s with grl.riseHold := none, grl.riseWaiting := false } else s

/-- The decrease path (R73): the setpoint falls at once and the word is sent, the pending rise clears, the decrease is
unconfirmed and the confirm timer starts anew; the Meter Front holds its over-draw count at 0 (R133). -/
def decrease (im : Image) (o : Outlet) (target : Nat) (s : State) : State :=
  s.modOut o fun u =>
    { u with
      grl := sendWord
        { u.grl with
          commanded := target, pending := none, unconfirmed := true, confirmTimer := s.timerIn im.confirmTimeout }
      mtf.overDraw := 0 }

/-- An outlet leaves DISPENSING for DWELL, EXHAUSTED or CLOSING (R84): a target of 0 by the decrease path if the setpoint is
above 0, and no pending rise. The park hold timer of one that leaves PARKED stops (R81). -/
def withdraw (im : Image) (o : Outlet) (s : State) : State :=
  let s := if 0 < (s.out o).grl.commanded then decrease im o 0 s else s
  settleRises (s.modOut o fun u => { u with grl.pending := none, grl.parkHold := .stopped })

/-- Parking (R80). -/
def park (im : Image) (o : Outlet) (s : State) : State :=
  let s := setSession o .parked s
  let s := if 0 < (s.out o).grl.commanded then decrease im o 0 s else s
  s.modOut o fun u =>
    { u with grl.pending := none, grl.parkHold := .running (s.now + im.parkHold * 1000) }

/-- Resumption (R82). -/
def resume (o : Outlet) (s : State) : State :=
  (setSession o .dispensing s).modOut o fun u => { u with grl.parkHold := .stopped }

/-- The resume test (R82): the park hold has expired, and the hypothetical share is at least floor plus resume margin. -/
def resumes (im : Image) (u : OutletState) : Bool :=
  u.grl.parkHold == .expired &&
    match u.share.hypothetical with
    | some h => decide (u.osc.header.floor + im.resumeMargin ≤ h)
    | none => false

/-- The pending rise of an outlet, set or cleared (R72, R76). -/
def setPending (o : Outlet) (p : Option Nat) (s : State) : State := s.modOut o fun u => { u with grl.pending := p }

/-- The hand-over at one fitted outlet (R72). -/
def handOverAt (im : Image) (o : Outlet) (s : State) : State :=
  if fitted im o then
    let t := (s.out o).share.target
    let c := (s.out o).grl.commanded
    let s := s.modOut o fun u => { u with grl.target := t }
    match (s.out o).osc.state with
    | .dispensing =>
      if t < (s.out o).osc.header.floor then park im o s
      else if t < c then decrease im o t s
      else if c < t then setPending o (some t) s
      else setPending o none s
    | .parked => if resumes im (s.out o) then resume o s else s
    | .idle | .starting | .dwell | .exhausted | .tripped | .closing | .settleWait => setPending o none s
  else s

/-- The rise hold after a hand-over (R76): stopped with no pending rise; started if stopped, unless a rise waits. DESIGN CHOICE: it is
looked at once, at the hand-over's end, so a parking within it that clears the last pending rise does not stop the hold where the other
outlet is given one (log 21). -/
def holdRises (im : Image) (s : State) : State :=
  if noPending s then settleRises s
  else if s.grl.riseHold.isNone && !s.grl.riseWaiting then { s with grl.riseHold := s.timerIn im.sharePeriod }
  else s

/-- The hand-over: both outlets, each from its own values (R72), and then the rise hold (log 21). -/
def handOver (im : Image) (s : State) : State := holdRises im (handOverAt im .b (handOverAt im .a s))

/-- One computation with its hand-over (R46), and the announced-value update it makes (R47, R70). -/
def computeOnce (im : Image) (s : State) : State := noted im (fun s => handOver im (compute im s)) s

/-- The session states of both outlets. -/
def sessions (s : State) : Session × Session := (s.outA.osc.state, s.outB.osc.state)

/-- A computation, and the further ones that parkings and resumptions of its hand-overs trigger (R72, R80, R82). -/
def computations (im : Image) : Nat → State → State
  | 0, s => s
  | n + 1, s =>
    let s' := computeOnce im s
    if sessions s' = sessions s then s' else computations im n s'

/-- A trigger of the Share Calculator (R46). In one event an outlet resumes and parks at most once each, since a parking
restarts its park hold; so four hand-overs can change a session and a fifth changes none. -/
def computation (im : Image) (s : State) : State := computations im 5 s

/-- One outlet is raised by a step (R78 steps 5 and 6); the session peak grant follows (R90). -/
def raiseBy (o : Outlet) (step : Nat) (s : State) : State :=
  s.modOut o fun u =>
    let g := u.grl
    let c := g.commanded + step
    { u with
      grl := sendWord
        { g with
          commanded := c, inEffect := g.inEffect + step, peak := max g.peak (g.inEffect + step),
          pending := if g.pending = some c then none else g.pending } }

/-- R78 steps 4 to 6: the outlets with a pending rise, in the order given, within the allowance. -/
def serveRises (im : Image) : List Outlet → Nat → State → State
  | [], _, s => s
  | o :: os, allowance, s =>
    match (s.out o).grl.pending with
    | none => serveRises im os allowance s
    | some p =>
      let step := min im.riseStep (min (p - (s.out o).grl.commanded) allowance)
      if 1 ≤ step then serveRises im os (allowance - step) (raiseBy o step s) else serveRises im os allowance s

/-- The allowance: the smaller of headroom and P_max, minus the commanded setpoints; 0 where that is 0 or less (R78). -/
def allowance (im : Image) (s : State) : Nat :=
  min (headroom im s) im.pMax - (s.outA.grl.commanded + s.outB.grl.commanded)

/-- After a rise evaluation (R79): the rise-waiting flag clears, and a new hold starts if a rise is still pending. -/
def afterRises (im : Image) (s : State) : State :=
  { s with
    grl.riseWaiting := false
    grl.riseHold := if noPending s then none else s.timerIn im.sharePeriod }

/-- A rise evaluation (R78, R79), lead outlet first. -/
def evaluateRises (im : Image) (s : State) : State := afterRises im (serveRises im s.grl.order (allowance im s) s)

/-- The evaluation a waiting rise gets at the first event after which no decrease is unconfirmed (R77); its rises are an update of
their own (R78). -/
def releaseRises (im : Image) (s : State) : State :=
  if s.grl.riseWaiting && noneUnconfirmed s then noted im (evaluateRises im) s else s

/-- A confirmed decrease at its outlet (R74 steps 1 to 3; R131). -/
def lowerGrant (o : Outlet) (s : State) : State :=
  s.modOut o fun u =>
    { u with grl.confirmTimer := none, grl.unconfirmed := false, grl.inEffect := u.grl.commanded, mtf.reseed := true }

/-- A confirmation of an unconfirmed decrease (R74 steps 1 to 4): the lower grant is an update before the rises it releases. -/
def confirmDecrease (im : Image) (o : Outlet) (s : State) : State := releaseRises im (noted im (lowerGrant o) s)

/-- A trip's effect on the outlet's grant values (R86, R87): setpoint 0 with its word, no timer, no pending rise, no decrease
unconfirmed; the in-effect grant falls at once only if FEEDBACK is recognised open. -/
def tripGrants (o : Outlet) (s : State) : State :=
  s.modOut o fun u =>
    { u with
      grl := sendWord
        { u.grl with
          commanded := 0, pending := none, unconfirmed := false, confirmTimer := none, parkHold := .stopped,
          inEffect := if u.feedback.level then u.grl.inEffect else 0 } }

/-- The entry to IDLE or SETTLE_WAIT (R87, R79): no grant, no timer, and the outlet leaves the opening order. -/
def clearGrants (o : Outlet) (s : State) : State :=
  let s := s.modOut o fun u =>
    { u with
      grl.target := 0, grl.commanded := 0, grl.inEffect := 0, grl.pending := none, grl.unconfirmed := false,
      grl.confirmTimer := none, grl.parkHold := .stopped }
  settleRises { s with grl.order := s.grl.order.filter fun x => x != o }

end Sys2Proof.Machine
end

