-- ==== Sys2Proof/Machine/Roster.lean ====
section
/-! DEFINITION. The Peer Roster (spec/02): entries and their life, the effective values, the line mode and its counts, and the
signal to the Share Calculator. -/

namespace Sys2Proof.Machine

/-- The entry under an id (R22). -/
def entryOf (roster : List Entry) (id : Nat) : Option Entry := roster.find? fun e => e.id == id

/-- The roster with an entry put under its id, in rising order of ids; an entry already there is replaced (R22). -/
def putEntry (x : Entry) : List Entry → List Entry
  | [] => [x]
  | e :: es =>
    if x.id < e.id then x :: e :: es
    else if x.id = e.id then x :: es
    else e :: putEntry x es

/-- The roster without the entry under an id (R26). -/
def dropEntry (id : Nat) (roster : List Entry) : List Entry := roster.filter fun e => e.id != id

/-- An entry is settled exactly when it is FRESH and its fresh run is 2 or more (R28). -/
def settledEntry (e : Entry) : Bool := e.fresh && decide (2 ≤ e.freshRun)

/-- The missed count after a frame (R25): a gap g of 2 or more, modulo 256, adds g − 1, saturating at 255. -/
def missedAfter (e : Entry) (sequence : Byte) : Nat := satAdd 255 e.missed ((sequence - e.lastSequence).toNat - 1)

/-- The entry an accepted ANNOUNCE creates (R23). -/
def newEntry (id : Nat) (sequence : Byte) (c : Announced) : Entry :=
  { id := id, fresh := true, age := 0, freshRun := 1, lastSequence := sequence, missed := 0, claimA := c.claimA,
    claimB := c.claimB, granted := c.granted, intended := c.intended, limit := c.limit, heard := c.heard, mode := c.mode }

/-- The entry an accepted ANNOUNCE refreshes (R24, R25). -/
def refreshedEntry (e : Entry) (sequence : Byte) (c : Announced) : Entry :=
  { id := e.id, fresh := true, age := 0, freshRun := if e.fresh then satAdd 15 e.freshRun 1 else 1,
    lastSequence := sequence, missed := missedAfter e sequence, claimA := c.claimA, claimB := c.claimB,
    granted := c.granted, intended := c.intended, limit := c.limit, heard := c.heard, mode := c.mode }

/-- The entry an accepted ANNOUNCE leaves under its id (R23, R24). -/
def heardEntry (roster : List Entry) (id : Nat) (sequence : Byte) (c : Announced) : Entry :=
  match entryOf roster id with
  | none => newEntry id sequence c
  | some e => refreshedEntry e sequence c

/-- One tick's ageing of one entry (R27): removed at the lapse count, STALE at the stale count, else one older. -/
def ageEntry (im : Image) (e : Entry) : Option Entry :=
  let age := e.age + 1
  if age = im.lapseCount then none
  else if e.fresh && age == im.staleCount then some { e with age := age, fresh := false, freshRun := 0 }
  else some { e with age := age }

/-- N_eff (R30). -/
def effectiveCount (im : Image) (roster : List Entry) : Nat := max im.nSite (1 + roster.length)

/-- L_eff: the smallest of L and the FRESH entries' announced limits (R32). -/
def effectiveLimit (im : Image) (roster : List Entry) : Nat :=
  roster.foldl (fun l e => if e.fresh then min l e.limit else l) im.limit

/-- The effective values worked anew (R30, R31, R32). -/
def refreshEffective (im : Image) (s : State) : State :=
  { s with
    prs.nEff := effectiveCount im s.prs.roster
    prs.unseen := effectiveCount im s.prs.roster - 1 - s.prs.roster.length
    prs.lEff := effectiveLimit im s.prs.roster }

/-- The mismatch list with a value added; at most 16, the oldest leaves (R33). -/
def listMismatch (xs : List Nat) (limit : Nat) : List Nat := if xs.length < 16 then xs ++ [limit] else xs.tail ++ [limit]

/-- R33: an announced limit that differs from L and is not listed is listed and raises LIMIT MISMATCH. -/
def noteLimit (im : Image) (limit : Nat) (s : State) : State :=
  if limit ≠ im.limit ∧ limit ∉ s.prs.mismatches then
    raise .limitMismatch { s with prs.mismatches := listMismatch s.prs.mismatches limit }
  else s

/-- R30: a creation that raises N_eff above its previous value and above N_site raises ROSTER OVER. -/
def noteOver (im : Image) (before : Nat) (s : State) : State :=
  if before < s.prs.nEff ∧ im.nSite < s.prs.nEff then raise .rosterOver s else s

/-- The unheard condition (R37): some settled entry whose peer announces JOINED or HALF_HEARD does not hear the own id. -/
def unheardCondition (im : Image) (roster : List Entry) : Bool :=
  roster.any fun e => settledEntry e && e.mode != .isolated && !e.heard.getLsbD im.stationId

/-- The unheard count is 0 whenever the condition is found false (R37). -/
def noteUnheard (im : Image) (s : State) : State :=
  if unheardCondition im s.prs.roster then s else { s with prs.unheard := 0 }

/-- The unheard count at a tick: one more in JOINED while the condition holds, saturating; 0 when it does not (R37). -/
def tickUnheard (im : Image) (s : State) : State :=
  if unheardCondition im s.prs.roster then
    if s.prs.mode = .joined then { s with prs.unheard := satAdd im.isolationCount s.prs.unheard 1 } else s
  else { s with prs.unheard := 0 }

/-- The isolation condition (R35), read with N_eff above 1. -/
def isolationCondition (im : Image) (s : State) : Bool :=
  decide (im.isolationCount ≤ s.prs.peerSilence) || decide (im.isolationCount ≤ s.prs.ackSilence) || s.slc.tx != .on

/-- The outcome of a mode evaluation (R39): the first row whose condition is true decides. -/
def evaluatedMode (im : Image) (s : State) : LineMode :=
  if s.prs.nEff = 1 then .joined
  else if isolationCondition im s then .isolated
  else
    match s.prs.mode with
    | .isolated => if s.prs.heardSinceEntry then .joined else .isolated
    | .halfHeard => if unheardCondition im s.prs.roster then .halfHeard else .joined
    | .joined => if im.isolationCount ≤ s.prs.unheard then .halfHeard else .joined

/-- A mode evaluation (R35, R39, R40): a change raises LINE MODE, and an entry to ISOLATED clears the heard-since-entry flag and
the unheard count. -/
def evaluateMode (im : Image) (s : State) : State :=
  let m := evaluatedMode im s
  if m = s.prs.mode then s
  else
    let s := raise .lineMode { s with prs.mode := m }
    if m = .isolated then { s with prs.heardSinceEntry := false, prs.unheard := 0 } else s

/-- What the signal of R41 watches of an entry: its status, claims, limit, granted, intended and mode. -/
def watchedEntry (e : Entry) : Nat × Bool × Claim × Claim × Nat × Nat × Nat × LineMode :=
  (e.id, e.fresh, e.claimA, e.claimB, e.limit, e.granted, e.intended, e.mode)

/-- A change that gives the Share Calculator a signal (R41). -/
def shareChanged (before after : Prs) : Bool :=
  before.roster.map watchedEntry != after.roster.map watchedEntry || before.nEff != after.nEff ||
    before.unseen != after.unseen || before.lEff != after.lEff || before.mode != after.mode

/-- The end of an event at the PRS (R39 to R41), which began at `before`: the mode is evaluated, the heard set and the mode are
one announced-value update, and a change that matters to the share gives the one signal. -/
def finishRoster (im : Image) (before s : State) : State :=
  let s := noteUpdate im (announced im before) (evaluateMode im s)
  if shareChanged before.prs s.prs then computation im s else s

/-- Every accepted peer frame resets the peer-silence count, and sets the heard-since-entry flag in ISOLATED (R34, R36). -/
def notePeerFrame (s : State) : State :=
  { s with
    prs.peerSilence := 0
    prs.heardSinceEntry := s.prs.heardSinceEntry || s.prs.mode == .isolated }

/-- The delivery of an ANNOUNCE (R23, R24): creation or refresh, then everything it changes. -/
def deliverAnnounce (im : Image) (id : Nat) (sequence : Byte) (c : Announced) (s : State) : State :=
  let created := (entryOf s.prs.roster id).isNone
  let s1 := notePeerFrame { s with prs.roster := putEntry (heardEntry s.prs.roster id sequence c) s.prs.roster }
  let s2 := refreshEffective im s1
  let s3 := if created then noteOver im s.prs.nEff s2 else s2
  finishRoster im s (noteUnheard im (noteLimit im c.limit s3))

/-- The delivery of a LEAVE (R26). -/
def deliverLeave (im : Image) (id : Nat) (s : State) : State :=
  let s1 := notePeerFrame { s with prs.roster := dropEntry id s.prs.roster }
  finishRoster im s (noteUnheard im (refreshEffective im s1))

/-- The report of an acknowledged completion (R34, R39). -/
def noteAcknowledged (im : Image) (s : State) : State := finishRoster im s { s with prs.ackSilence := 0 }

/-- The report of a change of transmitter state that the SLC has made (R35, R39); `before` is the state of the event's start. -/
def noteTransmitter (im : Image) (before s : State) : State := finishRoster im before s

/-- The peer-silence and ack-silence counts at a tick (R34). -/
def tickSilence (im : Image) (s : State) : State :=
  { s with
    prs.peerSilence := satAdd im.isolationCount s.prs.peerSilence 1
    prs.ackSilence := satAdd im.isolationCount s.prs.ackSilence 1 }

/-- The share-period tick at the PRS, in the order of R42; the signal is given whether or not anything changed. -/
def tickRoster (im : Image) (s : State) : State :=
  let s1 := refreshEffective im { s with prs.roster := s.prs.roster.filterMap (ageEntry im) }
  let s2 := evaluateMode im (tickUnheard im (tickSilence im s1))
  computation im (noteUpdate im (announced im s) s2)

/-- The PRS on entry to RUNNING (R44); no event is raised. -/
def Prs.start (im : Image) : Prs :=
  { roster := [], nEff := im.nSite, unseen := im.nSite - 1, lEff := im.limit, mismatches := [],
    peerSilence := im.isolationCount, ackSilence := im.isolationCount, unheard := 0, heardSinceEntry := false,
    mode := if im.nSite = 1 then .joined else .isolated }

end Sys2Proof.Machine
end

