-- ==== Sys2Proof/Machine/Session.lean ====
section
/-! DEFINITION. The Outlet Session Controller's shared operations (spec/05): what a change of session state triggers, trips, the
close sequence and its completion, the start of a session, dwell and exhaustion. -/

namespace Sys2Proof.Machine

/-- An event that changed a session state: its announced-value update, and the computation it triggers (R46, R70). -/
def triggered (im : Image) (before after : State) : State :=
  computation im (noteUpdate im (announced im before) after)

/-- An event at an outlet: a change of session state triggers a computation, anything else is an update at most (R46). Where the event
has several effects on announced values, each has made its update at its own moment (`noted`), and this last one finds none. -/
def outletEvent (im : Image) (before after : State) : State :=
  if sessions after = sessions before then noteUpdate im (announced im before) after else triggered im before after

/-- The states a trip cause trips (R107). -/
def trippable (c : Osc) : Bool :=
  match c.state with
  | .starting => true
  | .dispensing => true
  | .parked => true
  | .dwell => true
  | .exhausted => true
  | .closing => c.closePhase == some .outputWait
  | .idle => false
  | .tripped => false
  | .settleWait => false

/-- What a trip does at its outlet (R108, R86, R87). -/
def tripOutlet (o : Outlet) (cause : TripCause) (s : State) : State :=
  let s := s.modOut o fun u =>
    { u with
      osc.tripCause := some cause
      osc.forcedOpen := u.osc.forcedOpen || u.osc.state == .closing
      osc.driveClosed := false
      osc.startTimer := none
      osc.mismatchTimer := none
      osc.closeTimer := none
      osc.closePhase := none }
  tripGrants o (raise (tripFlag o) (setSession o .tripped s))

/-- A trip of an outlet in a trippable state (R108), and then the rises it releases at the other outlet (R86); in any other state the
cause changes nothing (R107). -/
def trip (im : Image) (o : Outlet) (cause : TripCause) (s : State) : State :=
  if fitted im o && trippable (s.out o).osc then settleRises (releaseRises im (noted im (tripOutlet o cause) s)) else s

/-- A trip cause at one outlet, as an event (R107, R46). -/
def tripEvent (im : Image) (o : Outlet) (cause : TripCause) (s : State) : State := outletEvent im s (trip im o cause s)

/-- The start condition holds: FEEDBACK recognised closed and HOLD recognised released (R101). -/
def startCondition (u : OutletState) : Bool := u.osc.state == .starting && u.feedback.level && !u.hold.level

/-- The start condition is tested at a recognised change of FEEDBACK or HOLD: when it holds the outlet enters DISPENSING and
its start timer stops (R101). -/
def testStart (o : Outlet) (s : State) : State :=
  if startCondition (s.out o) then
    setSession o .dispensing (s.modOut o fun u => { u with osc.startTimer := none })
  else s

/-- The completion of the close (R115, R116): the record is built, the binding and the capture end, and the record enters the
queue with the outlet IDLE, or is held with the outlet in SETTLE_WAIT. The Tariff Unit's binding is released, and the header's record of it
is cleared with it (R138); the header's values, the bound bank among them, stay readable (R93, R116; log 20). -/
def completeClose (o : Outlet) (s : State) : State :=
  let r := buildRecord o (s.out o)
  let s := s.modOut o fun u =>
    { u with
      acc := capAccounts r u.acc
      osc.header.binding := none
      osc.closePhase := none
      osc.closeTimer := none
      tru.binding := none
      mtf.capture := .off
      mtf.overDraw := 0 }
  let s :=
    if s.stu.queue.length < queueLimit then setSession o .idle (enterQueue r s)
    else
      setSession o .settleWait
        { s.modOut o (fun u => { u with heldRecord := some r }) with stu.settleWait := s.stu.settleWait ++ [o] }
  clearGrants o s

/-- OPEN WAIT (R112, R113, R114): the drive opens, which stops the mismatch timer, and the close timer starts; with FEEDBACK
already recognised open the close completes at once. -/
def beginOpenWait (im : Image) (o : Outlet) (s : State) : State :=
  let s := s.modOut o fun u =>
    { u with
      osc.closePhase := some .openWait
      osc.driveClosed := false
      osc.mismatchTimer := none
      osc.closeTimer := s.timerIn im.confirmTimeout }
  if (s.out o).feedback.level then s else completeClose o s

/-- The outlet waits in OUTPUT WAIT and its output is down: setpoint 0 and no decrease unconfirmed (R85, R113). -/
def outputDown (u : OutletState) : Bool :=
  u.osc.state == .closing && u.osc.closePhase == some .outputWait && u.grl.commanded == 0 && !u.grl.unconfirmed

/-- The Grant Logic's report that the output is down, if it is (R85, R113). -/
def reportOutput (im : Image) (o : Outlet) (s : State) : State :=
  if outputDown (s.out o) then noted im (beginOpenWait im o) s else s

/-- The acceptance of CLOSE SESSION (R112). -/
def acceptClose (im : Image) (o : Outlet) (s : State) : State :=
  let was := (s.out o).osc.state
  let s := s.modOut o fun u =>
    { u with
      osc.closeOrigin := if was = .starting then .starting else .other
      osc.startTimer := none }
  let s := setSession o .closing s
  if was = .tripped then beginOpenWait im o s
  else
    reportOutput im o (withdraw im o (s.modOut o fun u => { u with osc.closePhase := some .outputWait }))

/-- The session's capture starts (R126). -/
def startCapture (m : Mtf) : Mtf :=
  { m with
    capture := .waiting, counter := 0, lastInterval := none, lastEstimate := none, smoothed := 0, reseed := true,
    overDraw := 0 }

/-- The bank letter and version that the Tariff Unit gives at a binding (R145). -/
def selectedVersion (s : State) : Bank × BitVec 16 := (s.tru.selected, ((s.tru.bank s.tru.selected).getD emptyBank).version)

/-- The header an accepted OPEN SESSION writes (R100 steps 1 and 2). -/
def openHeader (s : State) (reference : BitVec 32) (hold tier demand floor : Nat) : Header :=
  { reference := reference, hold := hold, tier := tier, demand := demand, floor := floor
    bound := some (selectedVersion s)
    binding := some (selectedVersion s)
    startClock := if s.tru.clock.set then some s.tru.clock.minute else none }

/-- The acceptance of OPEN SESSION (R100): header, binding, cleared accounts, capture, STARTING with its timers, opening order
and session figures. -/
def acceptOpen (im : Image) (o : Outlet) (h : Header) (s : State) : State :=
  let t := s
  let s := s.modOut o fun u =>
    { u with
      osc :=
        { u.osc with
          header := h, sessionTime := 0, closeOrigin := .other, tripCause := none, closePhase := none
          exhaustedFlag := false, forcedOpen := false, driveClosed := true
          startTimer := t.timerIn (im.startTimeout * 1000)
          mismatchTimer := if u.feedback.level then none else t.timerIn im.feedbackTime }
      acc := .cleared
      mtf := startCapture u.mtf
      tru := bindSession t.tru.selected u.tru
      grl.peak := 0
      grl.parkedMs := 0 }
  setSession o .starting { s with grl.order := s.grl.order ++ [o] }

/-- The entry to DWELL (R103): demand and floor 0, the dwell period begins, and the setpoint falls to 0. -/
def enterDwell (im : Image) (o : Outlet) (s : State) : State :=
  let s := s.modOut o fun u =>
    { u with osc.header.demand := 0, osc.header.floor := 0, acc := beginDwell u.acc }
  withdraw im o (setSession o .dwell s)

/-- The demand and floor of an outlet in session are replaced (R102). -/
def replaceDemand (o : Outlet) (demand floor : Nat) (s : State) : State :=
  s.modOut o fun u => { u with osc.header.demand := demand, osc.header.floor := floor }

/-- The entry to EXHAUSTED at a credit report (R106). -/
def exhaust (im : Image) (o : Outlet) (s : State) : State :=
  let s := setSession o .exhausted (s.modOut o fun u => { u with osc.exhaustedFlag := true })
  withdraw im o (raise .exhausted s)

/-- The outlet at the head of the settle-wait order is served (R117): its record enters the queue and it becomes IDLE. -/
def serveSettleWait (s : State) : State :=
  match s.stu.settleWait with
  | [] => s
  | o :: rest =>
    let s1 := { s with stu.settleWait := rest }
    let s2 :=
      match (s.out o).heldRecord with
      | some r => enterQueue r s1
      | none => s1
    clearGrants o (setSession o .idle (s2.modOut o fun u => { u with heldRecord := none }))

end Sys2Proof.Machine
end

