-- ==== Sys2Proof/Machine/Responses.lean ====
section
/-! DEFINITION. The bytes of the host's responses (Tables 22 and 24, R188 to R190, R211, R212): each value in the order its rule
lists it, in the fewest whole bytes that hold its stated range. Assumption log 11 says which defining list each code follows. -/

namespace Sys2Proof.Machine

/-- Status codes, in the order of R186. -/
def statusCode : Status → Nat
  | .ok => 0
  | .pending => 1
  | .unknownCommand => 2
  | .badLength => 3
  | .badValue => 4
  | .wrongState => 5
  | .inhibited => 6
  | .bankInUse => 7
  | .noTariff => 8
  | .queueEmpty => 9
  | .restartUnseen => 10
  | .unconfigured => 11

/-- A response as it is shifted out (Table 22). -/
def responseBytes (r : Response) : List Byte :=
  be 1 (statusCode r.status) ++ [r.code] ++ be 2 r.payload.length ++ r.payload

/-- The PENDING answer: no command code and no payload (R183). -/
def pendingAnswer : Response := { status := .pending, code := 0, payload := [] }

/-- Configured state, in the order of R202. -/
def configuredCode : Configured → Nat
  | .loading _ => 0
  | .unconfigured => 1
  | .running _ => 2

/-- Transmitter state, in the order of R11. -/
def txCode : Tx → Nat
  | .on => 0
  | .resting => 1
  | .barred => 2

/-- Session states, in the order of Table 14. -/
def sessionCode : Session → Nat
  | .idle => 0
  | .starting => 1
  | .dispensing => 2
  | .parked => 3
  | .dwell => 4
  | .exhausted => 5
  | .tripped => 6
  | .closing => 7
  | .settleWait => 8

/-- Trip causes, in the order of R107. -/
def tripCode : TripCause → Nat
  | .eStop => 0
  | .contactor => 1
  | .moduleFault => 2
  | .startTimeout => 3
  | .confirmTimeout => 4
  | .overDraw => 5

/-- Close phases, in the order of R93. -/
def phaseCode : ClosePhase → Nat
  | .outputWait => 0
  | .openWait => 1

/-- End causes, in the order of R171. -/
def endCauseCode : EndCause → Nat
  | .hostClose => 0
  | .aborted => 1
  | .tripped c => 2 + tripCode c

/-- Outlet A is 0 and outlet B is 1 (R211). -/
def outletCode : Outlet → Nat
  | .a => 0
  | .b => 1

/-- Bank A is 0 and bank B is 1 (R211). -/
def bankCode : Bank → Nat
  | .a => 0
  | .b => 1

/-- Capture states, in the order of Table 16. -/
def captureCode : Capture → Nat
  | .off => 0
  | .waiting => 1
  | .timing => 2
  | .timedOut => 3

/-- Lookup outcomes, in the order of R138. -/
def lookupCode : Lookup → Nat
  | .none => 0
  | .found => 1
  | .noWindow => 2
  | .overlap => 3
  | .clockUnset => 4

/-- Park hold timer, in the order of R69. -/
def parkHoldCode : ParkHold → Nat
  | .stopped => 0
  | .running _ => 1
  | .expired => 2

/-- A segment key: 0 to 7 for a window, 08h for FALLBACK (spec/11, Settlement record). -/
def keyCode : SegmentKey → Nat
  | .window i => i
  | .fallback => 8

/-- A two-level value: 0 for the level its table lists first, which is the one the model holds as `true` (R94, R120). -/
def levelByte (level : Bool) : List Byte := be 1 (if level then 0 else 1)

/-- A set of up to eight members as a mask, the first member in bit 0 (R211). -/
def setBytes (members : List Bool) : List Byte :=
  be 1 ((members.zipIdx.map fun x => if x.1 then 2 ^ x.2 else 0).sum)

/-- The OK payload of STATUS (R188). -/
def statusPayload (s : State) : List Byte :=
  be 1 (configuredCode s.configured) ++ be 1 (lineModeCode s.prs.mode) ++ be 2 s.prs.lEff ++ be 1 (txCode s.slc.tx) ++
    be 2 s.shc.available ++ be 2 s.shc.iso ++ boolByte s.shc.busy ++
    be 1 (sessionCode s.outA.osc.state) ++ be 1 (sessionCode s.outB.osc.state) ++ be 1 s.stu.queue.length ++
    bytes16 (maskOf s.hpt.flags)

/-- The OK payload of LINE STATUS (R189): the five counters in the order of R19, transmitter state, own sequence. -/
def lineStatusPayload (s : State) : List Byte :=
  be 2 s.slc.checkErrors ++ be 2 s.slc.abortedSeen ++ be 2 s.slc.arbitrationLosses ++ be 2 s.slc.unacknowledged ++
    be 2 s.slc.bitErrors ++ be 1 (txCode s.slc.tx) ++ [s.slc.sequence]

/-- A claim of an entry, value by value (R22, R212). -/
def claimFields (c : Claim) : List Byte := boolByte c.present ++ be 2 c.demand ++ be 1 c.weight ++ boolByte c.parked

/-- A roster entry as R22 lists it, then the settled indication (R189). -/
def entryFields (e : Entry) : List Byte :=
  be 1 e.id ++ be 1 (if e.fresh then 0 else 1) ++ be 1 e.age ++ be 1 e.freshRun ++ [e.lastSequence] ++ be 1 e.missed ++
    claimFields e.claimA ++ claimFields e.claimB ++ be 2 e.granted ++ be 2 e.intended ++ be 2 e.limit ++
    bytes32 e.heard ++ be 1 (lineModeCode e.mode) ++ boolByte (settledEntry e)

/-- The OK payload of ROSTER READ (R189, R212). -/
def rosterPayload (s : State) (id : Nat) : List Byte :=
  match entryOf s.prs.roster id with
  | none => [0]
  | some e => 1 :: entryFields e

/-- The session header's values, in the order of R93. -/
def headerFields (h : Header) : List Byte :=
  bytes32 h.reference ++ be 4 h.hold ++ be 1 h.tier ++ be 2 h.demand ++ be 2 h.floor ++
    beOpt 1 (h.bound.map fun x => bankCode x.1) ++ beOpt 2 (h.bound.map fun x => x.2.toNat) ++ beOpt 2 h.startClock

/-- The OSC's values (R118), the E-STOP level last. -/
def oscFields (eStop : Filter) (u : OutletState) : List Byte :=
  be 1 (sessionCode u.osc.state) ++ beOpt 1 (u.osc.closePhase.map phaseCode) ++ headerFields u.osc.header ++
    be 4 u.osc.sessionTime ++ beOpt 1 (u.osc.tripCause.map tripCode) ++
    setBytes [u.osc.exhaustedFlag, u.osc.forcedOpen] ++ be 1 (if u.osc.driveClosed then 1 else 0) ++
    levelByte u.hold.level ++ levelByte u.settled.level ++ levelByte u.fault.level ++ levelByte u.feedback.level ++
    levelByte eStop.level

/-- The Share Calculator's values (R67). -/
def shareFields (r : Share) : List Byte := be 2 r.raw ++ be 2 r.split ++ be 2 r.target ++ beOpt 2 r.hypothetical

/-- A timer as its remaining time in ms, in `n` bytes (R212); all ones while it is stopped. -/
def timerBytes (n now : Nat) (t : Timer) : List Byte := beOpt n (t.map fun time => time - now)

/-- The Grant Logic's values (R91), the rise hold timer among them (R190); the parked time, which has no stated range, takes four bytes
(logs 3 and 11). -/
def grantFields (now : Nat) (station : GrlStation) (g : Grl) : List Byte :=
  be 2 g.target ++ be 2 g.commanded ++ be 2 g.inEffect ++ beOpt 2 g.pending ++ boolByte g.unconfirmed ++
    be 1 (parkHoldCode g.parkHold) ++ be 2 g.peak ++ be 4 g.parkedMs ++ timerBytes 2 now station.riseHold ++
    boolByte station.riseWaiting

/-- The Meter Front's values (R136); an interval or estimate of 65535 and none are both carried as FFFFh (log 11). -/
def meterFields (m : Mtf) : List Byte :=
  levelByte m.pulse.level ++ be 1 (captureCode m.capture) ++ beOpt 2 m.lastInterval ++ beOpt 2 m.lastEstimate ++
    be 2 m.smoothed ++ be 1 m.overDraw ++ be 2 m.stray

/-- The Tariff Unit's values (R156); a price of 65535 and none are both carried as FFFFh (log 11). -/
def tariffFields (t : TruOutlet) : List Byte :=
  beOpt 1 (t.binding.map bankCode) ++ be 1 (lookupCode t.outcome) ++ beOpt 2 t.price ++ beOpt 1 (t.segment.map keyCode) ++
    setBytes [t.faultNoWindow, t.faultOverlap, t.faultClockUnset]

/-- The Settlement Unit's values (R178). -/
def accountFields (a : Accounts) (held : Bool) : List Byte :=
  be 4 a.energy ++ be 5 a.total ++ be 1 a.segments.length ++ be 2 a.feeApplied ++ be 4 a.occupancyMinutes ++
    boolByte a.stopped ++ be 4 a.dwellMinutes ++ setBytes [a.tariffFault, a.saturated, a.capped] ++ boolByte held

/-- The OK payload of OUTLET STATUS (R190, R212): the fitted indication, then every block's values for the outlet. -/
def outletPayload (im : Image) (s : State) (o : Outlet) : List Byte :=
  if fitted im o then
    1 :: oscFields s.eStop (s.out o) ++ shareFields (s.out o).share ++ grantFields s.now s.grl (s.out o).grl ++
      meterFields (s.out o).mtf ++ tariffFields (s.out o).tru ++ accountFields (s.out o).acc (s.out o).heldRecord.isSome
  else [0]

/-- The OK payload of TARIFF READ (R144, R212). -/
def tariffPayload (s : State) (b : Bank) : List Byte :=
  setBytes [(s.tru.bank b).isSome, s.tru.selected == b, s.outA.tru.binding == some b, s.outB.tru.binding == some b,
      s.tru.clock.set] ++
    be 2 s.tru.clock.minute ++ be 1 s.tru.clock.second ++
    match s.tru.bank b with
    | some x => bankBytes x
    | none => []

/-- One segment of a record: key, energy, amount (spec/11, Settlement record). -/
def segmentFields (g : Segment) : List Byte := be 1 (keyCode g.key) ++ be 4 g.energy ++ be 5 g.amount

/-- A settlement record (Table 24). -/
def recordBytes (r : Record) : List Byte :=
  bytes16 r.sequence ++ be 1 (outletCode r.outlet) ++ bytes32 r.reference ++ beOpt 1 (r.bound.map fun x => bankCode x.1) ++
    beOpt 2 (r.bound.map fun x => x.2.toNat) ++ be 1 r.tier ++ beOpt 2 r.startClock ++ be 4 r.duration ++
    be 1 (endCauseCode r.endCause) ++ be 4 r.energy ++ be 2 r.feeApplied ++ be 4 r.occupancyMinutes ++
    be 5 r.occupancyAmount ++ be 4 r.total ++ be 4 r.settled ++ be 4 r.hold ++ be 4 r.uncollected ++
    be 4 r.parkedSeconds ++ be 2 r.peak ++ setBytes [r.tariffFault, r.saturated, r.capped, r.exhausted, r.forcedOpen] ++
    be 1 r.segments.length ++ r.segments.flatMap segmentFields

/-- The applied demand and floor (R187, R212). -/
def appliedPayload (demand floor : Nat) : List Byte := be 2 demand ++ be 2 floor

end Sys2Proof.Machine
end

