-- ==== Sys2Proof/Machine/Image.lean ====
section
/-! DEFINITION. The configuration image: its items (Table 27) and the three tests that make it valid (R205 to R207). -/

namespace Sys2Proof.Machine

/-- The items of an image, at the places of Table 27. -/
def imageItems (l : List Byte) : Image :=
  { stationId := u8At l 0, nSite := u8At l 1, limit := u16At l 2, guard := u16At l 4, pMax := u16At l 6,
    outlets := u8At l 8, pOutA := u16At l 9, pOutB := u16At l 11,
    weight0 := u8At l 13, weight1 := u8At l 14, weight2 := u8At l 15, weight3 := u8At l 16,
    sharePeriod := u16At l 17, staleCount := u8At l 19, isolationCount := u8At l 20, lapseCount := u8At l 21,
    riseStep := u16At l 22, resumeMargin := u16At l 24, parkHold := u8At l 26, confirmTimeout := u16At l 27,
    startTimeout := u8At l 29, feedbackTime := u16At l 30, filterDepth := u8At l 32, meterDepth := u8At l 33,
    pulseWeight := u8At l 34, beta := u8At l 35, tolerance := u16At l 36, overDrawLimit := u8At l 38,
    busyPercent := u8At l 39, stopReserve := u16At l 40, weekend := l.getD 42 0 }

/-- The sum of bytes 0 to 61 modulo 65536 (R205). -/
def imageSum (l : List Byte) : Nat := ((l.take 62).map BitVec.toNat).sum % 65536

/-- R205: the check word, bytes 62 and 63, equals 65535 minus the sum. -/
def checkWordGood (l : List Byte) : Bool := u16At l 62 == 65535 - imageSum l

/-- A value in a range, both ends included. -/
def inRange (lo hi n : Nat) : Bool := decide (lo ≤ n) && decide (n ≤ hi)

/-- R206: every item lies in its range; P_out(B) is not examined with one outlet fitted. -/
def itemsInRange (im : Image) : Bool :=
  inRange 1 31 im.stationId && inRange 1 31 im.nSite && inRange 10 40000 im.limit && inRange 0 4000 im.guard &&
  inRange 10 10000 im.pMax && inRange 1 2 im.outlets && inRange 10 6000 im.pOutA &&
  (im.outlets == 1 || inRange 10 6000 im.pOutB) &&
  inRange 1 15 im.weight0 && inRange 1 15 im.weight1 && inRange 1 15 im.weight2 && inRange 1 15 im.weight3 &&
  (inRange 100 1000 im.sharePeriod && im.sharePeriod % 50 == 0) &&
  inRange 2 8 im.staleCount && inRange 3 32 im.isolationCount && inRange 4 64 im.lapseCount &&
  inRange 10 2000 im.riseStep && inRange 0 500 im.resumeMargin && inRange 1 60 im.parkHold &&
  inRange 100 2000 im.confirmTimeout && inRange 1 30 im.startTimeout && inRange 20 500 im.feedbackTime &&
  [3, 7, 15].contains im.filterDepth && [3, 7, 15].contains im.meterDepth &&
  [1, 2, 5, 10].contains im.pulseWeight && inRange 0 4 im.beta && inRange 0 1000 im.tolerance &&
  inRange 1 15 im.overDrawLimit && inRange 50 100 im.busyPercent && inRange 0 500 im.stopReserve &&
  !im.weekend.getLsbD 7

/-- R207: the relations between items. -/
def relationsHold (im : Image) : Bool :=
  decide (im.guard < im.limit) && decide (im.staleCount < im.isolationCount) &&
  decide (im.isolationCount < im.lapseCount) &&
  decide (im.isolationCount * im.sharePeriod + im.confirmTimeout + im.sharePeriod ≤ im.lapseCount * im.sharePeriod)

/-- The image that 64 bytes hold, when they pass the three tests of R205 to R207; none otherwise. -/
def validImage (l : List Byte) : Option Image :=
  if checkWordGood l && itemsInRange (imageItems l) && relationsHold (imageItems l) then some (imageItems l) else none

/-- The image a configuration read gives at the end of its second pass (R204): that of the first pass, if the memory acknowledged
and the second pass gave the same bytes. -/
def readBytes (read : ConfigRead) : ReadResult → Option (List Byte)
  | .noAcknowledge => none
  | .pass bytes => if read.firstPass = some bytes then some bytes.toList else none

end Sys2Proof.Machine
end

