-- ==== Sys2Proof/Machine/Startup.lean ====
section
/-! DEFINITION. The Start-up Loader (spec/10): power-on and the reset line, the entry to RUNNING, the end of a configuration
read, and the reinitialisation after RESTART; with the meanings of the five start-up rows. -/

namespace Sys2Proof.Machine

/-- A filter at its start (R95, R122): the inactive level recognised, no run; what the pin shows is not the filter's. -/
def startFilter (inactive : Bool) (f : Filter) : Filter := { pin := f.pin, level := inactive, run := 0 }

/-- The five filters of an outlet at their start (R95, R122). -/
def startFilters (u : OutletState) : OutletState :=
  { u with
    hold := startFilter true u.hold, settled := startFilter false u.settled, fault := startFilter false u.fault,
    feedback := startFilter false u.feedback, mtf.pulse := startFilter false u.mtf.pulse }

/-- An outlet at its reset values with its pins as the outside holds them (log 5). -/
def resetOutlet (u : OutletState) : OutletState :=
  { OutletState.reset with
    hold := startFilter true u.hold, settled := startFilter false u.settled, fault := startFilter false u.fault,
    feedback := startFilter false u.feedback, mtf := { Mtf.reset with pulse := startFilter false u.mtf.pulse } }

/-- Every block at its power-on values, LOADING with no image and no read under way (R203). The queue of waiting commands, the
count of free values drawn, the pins and the reset line are outside the part; so is chip select, and a transaction that was
answered PENDING stays open to its rising edge, its command not taken (R183, R203; log 9). -/
def powerOnState (s : State) : State :=
  { State.reset with
    pending := s.pending, draws := s.draws, resetLow := s.resetLow, eStop := startFilter false s.eStop
    hpt := { Hpt.reset with
      pendingOpen := s.hpt.pendingOpen, underWay := s.hpt.underWay, miso := s.hpt.miso
      misoReleased := s.hpt.misoReleased }
    outA := resetOutlet s.outA, outB := resetOutlet s.outB }

/-- A configuration read that begins (R204): its first pass. -/
def freshRead : ConfigRead := { firstPass := none, elapsed := 0, failed := false }

/-- One outlet after the reinitialisation: its reset values, with its stray count kept (R137, R210). -/
def restartOutlet (u : OutletState) : OutletState :=
  let x := resetOutlet u
  { x with mtf := { x.mtf with stray := u.mtf.stray } }

/-- The reinitialisation (R210 stages 2 and 3): the configuration is discarded, the flags are cleared, every block takes its
reset values but for what R210 keeps, and a configuration read begins. -/
def reinitialise (s : State) : State :=
  { State.reset with
    pending := s.pending, draws := s.draws, now := s.now, phase := s.phase, clockTickDue := s.clockTickDue
    resetLow := s.resetLow, configured := .loading (some freshRead), eStop := startFilter false s.eStop
    slc := { Slc.reset with lineIdle := s.slc.lineIdle }
    tru := s.tru, stu := { s.stu with settleWait := [] }
    hpt := { s.hpt with flags := 0, captured := none }
    outA := restartOutlet s.outA, outB := restartOutlet s.outB }

/-- No valid image (R208): UNCONFIGURED, and CONFIG FAULT is raised. -/
def becomeUnconfigured (s : State) : State := raise .configFault { s with configured := .unconfigured }

/-- The setpoint word of 0 each fitted outlet is sent on entry to RUNNING (R92). -/
def firstWord (im : Image) (o : Outlet) (s : State) : State :=
  if fitted im o then s.modOut o fun u => { u with grl := beginWord u.grl } else s

/-- The entry to RUNNING (R208): RESTART is raised, an ANNOUNCE is due and the ticks start (R8, R21), the PRS starts (R44), the
filters start (R95, R122), the stray count of an outlet not fitted is 0 (R210), the SHC computes once (R48), and a word of 0 goes
to each fitted outlet (R92). -/
def enterRunning (im : Image) (s : State) : State :=
  let s := raise .restart
    { s with
      configured := .running im
      slc.slot := .due .announce
      slc.shareTick := s.timerIn im.sharePeriod
      prs := Prs.start im
      eStop := startFilter false s.eStop
      outA := startFilters s.outA
      outB := startFilters s.outB }
  let s := if fitted im .b then s else s.modOut .b fun u => { u with mtf.stray := 0 }
  firstWord im .b (firstWord im .a (computation im s))

/-- The image a finished read gives, if it did not fail and is valid (R204, R208). -/
def readImage (read : ConfigRead) (result : ReadResult) : Option Image :=
  if read.failed then none else (readBytes read result).bind validImage

/-- The read after the end of its first pass (R204): the second pass begins, with a limit of its own. None where what has ended
is the read. -/
def secondPass (read : ConfigRead) : ReadResult → Option ConfigRead
  | .noAcknowledge => none
  | .pass bytes =>
    if read.firstPass.isNone && !read.failed then some { firstPass := some bytes, elapsed := 0, failed := false } else none

/-- POWER_ON (R203): a read starts once supply and clock are stable, unless the reset line is held LOW. -/
def execPowerOn (s : State) : Host.Outcome State Fault Refusal :=
  let t := powerOnState s
  .next (if s.resetLow then t else { t with configured := .loading (some freshRead) })

/-- A transaction is under way when the reset line is asserted (R203). The falling edge of one that is not answered PENDING has no row,
so whether there is one is a free value (log 9). -/
def crossesReset (s : State) : Bool := !s.hpt.pendingOpen && (s.hpt.underWay || Config.underWayAtReset s.draws)

/-- RESET_LINE_ASSERTED (R203). A transaction under way is not taken. -/
def execResetLineAsserted (s : State) : Host.Outcome State Fault Refusal :=
  .next { powerOnState s with resetLow := true, draws := s.draws + 1, hpt.underWay := crossesReset s }

/-- RESET_LINE_RELEASED (R203): the line was LOW, so the part is LOADING with no read under way, and the rising edge starts one.
An edge that finds a read under way or an image decided cannot be (log 12): the line alone changes. -/
def execResetLineReleased (s : State) : Host.Outcome State Fault Refusal :=
  match s.configured with
  | .loading none => .next { s with resetLow := false, configured := .loading (some freshRead) }
  | .loading (some _) => .next { s with resetLow := false }
  | .unconfigured => .next { s with resetLow := false }
  | .running _ => .next { s with resetLow := false }

/-- CONFIGURATION_READ_END (R204, R208): the end of the second pass, or a missing acknowledge, ends the read; the end of the first
pass, which has no row of its own, begins the second (log 14). There is no end of a read that is not under way (log 12). -/
def execConfigurationReadEnd (result : ReadResult) (s : State) : Host.Outcome State Fault Refusal :=
  match s.configured with
  | .loading (some read) =>
    match secondPass read result with
    | some next => .next { s with configured := .loading (some next) }
    | none =>
      match readImage read result with
      | some im => .next (enterRunning im s)
      | none => .next (becomeUnconfigured s)
  | .loading none => .next s
  | .unconfigured => .next s
  | .running _ => .next s

/-- PASS_TIMEOUT (R204): the pass under way has not ended in its time, and the read fails. -/
def execPassTimeout (s : State) : Host.Outcome State Fault Refusal :=
  match s.configured with
  | .loading (some read) => .next { s with configured := .loading (some { read with failed := true }) }
  | .loading none => .next s
  | .unconfigured => .next s
  | .running _ => .next s

end Sys2Proof.Machine
end

