-- ==== Sys2Proof/Machine/HostPort.lean ====
section
/-! DEFINITION. The Host Port (spec/09): transactions, the checks of R185, and the meanings of the host's rows. A row of one of the
eighteen commands is that command's execution event (R182). -/

namespace Sys2Proof.Machine

/-- The transaction whose command this is has finished executing; another one that is captured goes on (log 9). -/
def finishCaptured (i : Instr) (s : State) : State :=
  if s.hpt.captured.map commandOf = some i then { s with hpt.captured := none } else s

/-- The transaction is answered PENDING: its MISO carries that answer and its command is not taken (R183). How many bytes the host
clocks shows at the rise of chip select alone (log 9). -/
def answerPending (s : State) : State := { s with hpt.miso := responseBytes pendingAnswer }

/-- A command allowed in every configured state that takes transactions (Table 19). While LOADING, and from the acceptance of
RESTART to the end of its reinitialisation, the transaction is answered PENDING (R184). -/
def hostAny (i : Instr) (f : State → State) (s : State) : State :=
  match s.configured with
  | .loading _ => answerPending s
  | .unconfigured => f (finishCaptured i s)
  | .running _ => if s.slc.leaveWait then answerPending s else f (finishCaptured i s)

/-- A command that an UNCONFIGURED part refuses (R185 step 3). -/
def hostRunning (i : Instr) (code : Nat) (f : Image → State → State) (s : State) : State :=
  match s.configured with
  | .loading _ => answerPending s
  | .unconfigured => refuse .unconfigured code (finishCaptured i s)
  | .running im => if s.slc.leaveWait then answerPending s else f im (finishCaptured i s)

/-- The bytes a transaction of `n` bytes shifts out: the response, then fill, as far as the host clocks (R181). -/
def shiftedOut (r : Response) (n : Nat) : List Byte := (responseBytes r ++ List.replicate n 0xFF).take n

/-- A command counts as executing for R183: one is captured, or the part is LOADING or waits to reinitialise (R184). -/
def executing (s : State) : Bool :=
  match s.configured with
  | .loading _ => true
  | .unconfigured => s.hpt.captured.isSome
  | .running _ => s.hpt.captured.isSome || s.slc.leaveWait

/-- PENDING (R183): chip select falls while a command is executing; the part drives MISO, and the transaction stays open until its
rising edge. Chip select was high, so no transaction that a reset fell into is still under way. -/
def execPending (s : State) : Host.Outcome State Fault Refusal :=
  if executing s then
    .next { answerPending s with hpt.pendingOpen := true, hpt.underWay := false, hpt.misoReleased := false }
  else .next s

/-- The transaction that ends is one answered PENDING (R183): its PENDING row said so, or a command is executing at its end, so that
one was when it began (log 9). -/
def wasPending (s : State) : Bool := s.hpt.pendingOpen || executing s

/-- The transaction that ends is one a reset fell into, and no PENDING row announced it (R203). -/
def acrossReset (s : State) : Bool := s.hpt.underWay && !s.hpt.pendingOpen

/-- What MISO carried in a transaction of `n` bytes that a reset fell into: no rule says, so free values (log 9). -/
def shiftedAcross (draw n : Nat) : List Byte := (List.range n).map (Config.shiftedAcrossReset draw)

/-- Chip select rises: the transaction is over and MISO is released; what it carried, and the message captured, are given. -/
def endTransaction (miso : List Byte) (captured : Option (List Byte)) (s : State) : State :=
  { s with
    hpt := { s.hpt with
      pendingOpen := false, underWay := false, misoReleased := true, miso := miso, captured := captured } }

/-- CHIP_SELECT_RISE (R180 to R183, R203): what was shifted out is cut at the bytes clocked, and MISO is released; a transaction
answered PENDING, one that a reset fell into and a byteless one are not taken, and any other is captured and its command begins to
execute. -/
def execChipSelectRise (bytes : List Byte) (s : State) : Host.Outcome State Fault Refusal :=
  .next
    (if acrossReset s then
      endTransaction (shiftedAcross s.draws bytes.length) s.hpt.captured { s with draws := s.draws + 1 }
    else if wasPending s then endTransaction (shiftedOut pendingAnswer bytes.length) s.hpt.captured s
    else
      endTransaction (shiftedOut s.hpt.held bytes.length) (if bytes.isEmpty then s.hpt.captured else some bytes) s)

/-- The commands an UNCONFIGURED part takes (Table 19). -/
def takenUnconfigured (code : Nat) : Bool := code == 1 || code == 2 || code == 4 || code == 0x10

/-- R185 steps 1 to 4 on a message that is no command's: BAD LENGTH, UNKNOWN COMMAND, UNCONFIGURED, BAD LENGTH. -/
def messageRefusal (unconfigured : Bool) (bytes : List Byte) : Option Status :=
  if bytes.length < 3 then some .badLength
  else
    match payloadLength (u8At bytes 0) with
    | none => some .unknownCommand
    | some n =>
      if unconfigured && !takenUnconfigured (u8At bytes 0) then some .unconfigured
      else if u16At bytes 1 ≠ n ∨ bytes.length < 3 + n then some .badLength
      else none

/-- UNKNOWN_COMMAND (R185): bytes that do spell a command are not this row's, and change nothing (log 12). -/
def execUnknownCommand (bytes : List Byte) (s : State) : Host.Outcome State Fault Refusal :=
  if bytes.isEmpty then .next s
  else
    .next (hostAny (.unknownCommand bytes)
      (fun s =>
        match messageRefusal (s.configured == .unconfigured) bytes with
        | some status => refuse status (u8At bytes 0) s
        | none => s) s)

/-- NOP (R188). -/
def execNop (s : State) : Host.Outcome State Fault Refusal := .next (hostAny .nop (respond .ok 0x01 []) s)

/-- STATUS (R188). -/
def execStatus (s : State) : Host.Outcome State Fault Refusal :=
  .next (hostAny .status (fun s => respond .ok 0x02 (statusPayload s) s) s)

/-- LINE STATUS (R189). -/
def execLineStatus (s : State) : Host.Outcome State Fault Refusal :=
  .next (hostRunning .lineStatus 0x03 (fun _ s => respond .ok 0x03 (lineStatusPayload s) s) s)

/-- CONFIGURE (R191, R209): refused in RUNNING; in UNCONFIGURED a valid image takes the part to RUNNING. -/
def execConfigure (image : Vector Byte 64) (s : State) : Host.Outcome State Fault Refusal :=
  .next (hostAny (.configure image)
    (fun s =>
      match s.configured with
      | .running _ => refuse .wrongState 0x04 s
      | .loading _ => s
      | .unconfigured =>
        match validImage image.toList with
        | none => refuse .badValue 0x04 s
        | some im => respond .ok 0x04 [] (enterRunning im s)) s)

/-- The clock that SET CLOCK sets (R148). -/
def setClockTo (minute seconds : Nat) (s : State) : State :=
  { s with tru.clock := { set := true, minute := minute, second := seconds, milli := 0 } }

/-- SET CLOCK (R148). -/
def execSetClock (minute : BitVec 16) (seconds : Byte) (s : State) : Host.Outcome State Fault Refusal :=
  .next (hostRunning (.setClock minute seconds) 0x05
    (fun _ s =>
      if 10079 < minute.toNat ∨ 59 < seconds.toNat then refuse .badValue 0x05 s
      else respond .ok 0x05 [] (setClockTo minute.toNat seconds.toNat s)) s)

/-- The OSC's conditions on OPEN SESSION, in order (R99). -/
def openRefusal (im : Image) (s : State) (o : Outlet) : Option Status :=
  if !fitted im o then some .badValue
  else if (s.out o).osc.state ≠ .idle then some .wrongState
  else if s.eStop.level then some .inhibited
  else if (s.out o).fault.level then some .inhibited
  else if (s.out o).feedback.level then some .inhibited
  else if (s.tru.bank s.tru.selected).isNone then some .noTariff
  else none

/-- The Host Port's own checks on OPEN SESSION (R192): BAD VALUE at step 5, RESTART UNSEEN at step 6. -/
def openCheck (s : State) (hold tier : Nat) : Option Status :=
  if hold < 1 ∨ 1000000 < hold ∨ 3 < tier then some .badValue
  else if s.flagSet .restart then some .restartUnseen
  else none

/-- OPEN SESSION (R192, R99, R100). -/
def execOpenSession (outlet : Byte) (reference hold : BitVec 32) (tier : Byte) (demand floor : BitVec 16) (s : State) :
    Host.Outcome State Fault Refusal :=
  .next (hostRunning (.openSession outlet reference hold tier demand floor) 0x06
    (fun im s =>
      match outletOf outlet with
      | none => refuse .badValue 0x06 s
      | some o =>
        match (openCheck s hold.toNat tier.toNat).or (openRefusal im s o) with
        | some status => refuse status 0x06 s
        | none =>
          let d := appliedDemand im o demand
          let f := appliedFloor im o demand floor
          respond .ok 0x06 (appliedPayload d f)
            (triggered im s (acceptOpen im o (openHeader s reference hold.toNat tier.toNat d f) s))) s)

/-- R102 with the complete flag clear: demand and floor replaced, and DWELL left for DISPENSING at a demand of 1 or more (R104);
none is WRONG STATE. -/
def takeDemand (o : Outlet) (demand floor : Nat) (s : State) : Option State :=
  match (s.out o).osc.state with
  | .starting => some (replaceDemand o demand floor s)
  | .dispensing => some (replaceDemand o demand floor s)
  | .parked => some (replaceDemand o demand floor s)
  | .dwell =>
    some (if 1 ≤ demand then setSession o .dispensing (replaceDemand o demand floor s) else replaceDemand o demand floor s)
  | .idle | .exhausted | .tripped | .closing | .settleWait => none

/-- R102 with the complete flag set: DWELL (R103); none is WRONG STATE. -/
def takeComplete (im : Image) (o : Outlet) (s : State) : Option State :=
  match (s.out o).osc.state with
  | .dispensing => some (enterDwell im o s)
  | .parked => some (enterDwell im o s)
  | .dwell => some (replaceDemand o 0 0 s)
  | .starting | .idle | .exhausted | .tripped | .closing | .settleWait => none

/-- An accepted SET DEMAND: the computation it triggers, and OK with the applied values (R102, R46, R187). -/
def demandTaken (im : Image) (before : State) (demand floor : Nat) : Option State → State
  | none => refuse .wrongState 0x07 before
  | some after => respond .ok 0x07 (appliedPayload demand floor) (triggered im before after)

/-- SET DEMAND (R193, R102). -/
def execSetDemand (outlet : Byte) (demand floor : BitVec 16) (complete : Byte) (s : State) :
    Host.Outcome State Fault Refusal :=
  .next (hostRunning (.setDemand outlet demand floor complete) 0x07
    (fun im s =>
      match outletOf outlet with
      | none => refuse .badValue 0x07 s
      | some o =>
        if 1 < complete.toNat ∨ fitted im o = false then refuse .badValue 0x07 s
        else if complete = 1 then demandTaken im s 0 0 (takeComplete im o s)
        else
          let d := appliedDemand im o demand
          let f := appliedFloor im o demand floor
          demandTaken im s d f (takeDemand o d f s)) s)

/-- The states in which CLOSE SESSION is accepted (R112). -/
def closable : Session → Bool
  | .starting => true
  | .dispensing => true
  | .parked => true
  | .dwell => true
  | .exhausted => true
  | .tripped => true
  | .idle => false
  | .closing => false
  | .settleWait => false

/-- CLOSE SESSION (R193, R112). -/
def execCloseSession (outlet : Byte) (s : State) : Host.Outcome State Fault Refusal :=
  .next (hostRunning (.closeSession outlet) 0x08
    (fun im s =>
      match outletOf outlet with
      | none => refuse .badValue 0x08 s
      | some o =>
        if fitted im o = false then refuse .badValue 0x08 s
        else if closable (s.out o).osc.state then respond .ok 0x08 [] (triggered im s (acceptClose im o s))
        else refuse .wrongState 0x08 s) s)

/-- OUTLET STATUS (R190). -/
def execOutletStatus (outlet : Byte) (s : State) : Host.Outcome State Fault Refusal :=
  .next (hostRunning (.outletStatus outlet) 0x09
    (fun im s =>
      match outletOf outlet with
      | none => refuse .badValue 0x09 s
      | some o => respond .ok 0x09 (outletPayload im s o) s) s)

/-- ROSTER READ (R189). -/
def execRosterRead (id : Byte) (s : State) : Host.Outcome State Fault Refusal :=
  .next (hostRunning (.rosterRead id) 0x0A
    (fun _ s =>
      if id.toNat = 0 ∨ 31 < id.toNat then refuse .badValue 0x0A s
      else respond .ok 0x0A (rosterPayload s id.toNat) s) s)

/-- TARIFF LOAD (R194, R141, R142). -/
def execTariffLoad (bank : Byte) (image : Vector Byte 57) (s : State) : Host.Outcome State Fault Refusal :=
  .next (hostRunning (.tariffLoad bank image) 0x0B
    (fun _ s =>
      match bankOf bank with
      | none => refuse .badValue 0x0B s
      | some b =>
        if bankInUse s b then refuse .bankInUse 0x0B s
        else if bankLoads (bankItems image.toList) then
          respond .ok 0x0B [] { s with tru := s.tru.load b (bankItems image.toList) }
        else refuse .badValue 0x0B s) s)

/-- TARIFF SELECT (R194, R143). -/
def execTariffSelect (bank : Byte) (s : State) : Host.Outcome State Fault Refusal :=
  .next (hostRunning (.tariffSelect bank) 0x0C
    (fun _ s =>
      match bankOf bank with
      | none => refuse .badValue 0x0C s
      | some b =>
        if (s.tru.bank b).isSome then respond .ok 0x0C [] { s with tru.selected := b }
        else refuse .badValue 0x0C s) s)

/-- TARIFF READ (R194, R144). -/
def execTariffRead (bank : Byte) (s : State) : Host.Outcome State Fault Refusal :=
  .next (hostRunning (.tariffRead bank) 0x0D
    (fun _ s =>
      match bankOf bank with
      | none => refuse .badValue 0x0D s
      | some b => respond .ok 0x0D (tariffPayload s b) s) s)

/-- RECORD PEEK (R195, R176): the queue count, then the oldest record. -/
def execRecordPeek (s : State) : Host.Outcome State Fault Refusal :=
  .next (hostRunning .recordPeek 0x0E
    (fun _ s =>
      match s.stu.queue with
      | [] => refuse .queueEmpty 0x0E s
      | r :: _ => respond .ok 0x0E (be 1 s.stu.queue.length ++ recordBytes r) s) s)

/-- RECORD RELEASE (R195, R177): the count answered is the one before a waiting outlet is served. -/
def execRecordRelease (s : State) : Host.Outcome State Fault Refusal :=
  .next (hostRunning .recordRelease 0x0F
    (fun im s =>
      match s.stu.queue with
      | [] => refuse .queueEmpty 0x0F s
      | r :: rest =>
        respond .ok 0x0F (bytes16 r.sequence ++ be 1 rest.length)
          (outletEvent im s (serveSettleWait { s with stu.queue := rest }))) s)

/-- EVENTS (R198): the flags as they stood are answered, and those set and named are cleared. -/
def execEvents (clear : BitVec 16) (s : State) : Host.Outcome State Fault Refusal :=
  .next (hostAny (.events clear)
    (fun s =>
      match flagSetOf clear with
      | none => refuse .badValue 0x10 s
      | some named =>
        respond .ok 0x10 (bytes16 (maskOf s.hpt.flags)) { s with hpt.flags := s.hpt.flags &&& ~~~named }) s)

/-- EVENT ENABLE (R199): the enable set is replaced, and answered as it stood before. -/
def execEventEnable (enable : BitVec 16) (s : State) : Host.Outcome State Fault Refusal :=
  .next (hostRunning (.eventEnable enable) 0x11
    (fun _ s =>
      match flagSetOf enable with
      | none => refuse .badValue 0x11 s
      | some named => respond .ok 0x11 (bytes16 (maskOf s.hpt.enable)) { s with hpt.enable := named }) s)

/-- The transmit slot at the acceptance of RESTART (R20): an ANNOUNCE on the line runs on, and otherwise a LEAVE is due. -/
def leaveSlot : Slot → Slot
  | .sending frame => .sending frame
  | .empty => .due .leave
  | .deferred _ => .due .leave
  | .due _ => .due .leave

/-- The acceptance of RESTART (R210 stage 1, R20): the LEAVE wait begins, or the reinitialisation at once when the transmitter is
RESTING or BARRED. -/
def beginLeave (s : State) : State :=
  if s.slc.tx = .on then
    { s with
      slc.leaveWait := true
      slc.leaveTimer := s.timerIn 100
      slc.leaveExpired := false
      slc.slot := leaveSlot s.slc.slot }
  else reinitialise s

/-- RESTART (R196, R210). -/
def execRestart (s : State) : Host.Outcome State Fault Refusal :=
  .next (hostRunning .restart 0x12
    (fun _ s =>
      if s.outA.osc.state = .idle ∧ s.outB.osc.state = .idle then beginLeave (respond .ok 0x12 [] s)
      else refuse .wrongState 0x12 s) s)

end Sys2Proof.Machine
end

