-- ==== Sys2Proof/Machine/Line.lean ====
section
/-! DEFINITION. The meanings of the share line's rows (spec/01) and of the PRS's tick (R42): attempts and how they end, received
frames, the LEAVE wait, and what the receiver finds on the line. -/

namespace Sys2Proof.Machine

/-- The end of a line counter's range (R19). -/
def maxCount : Nat := 65535

/-- An own frame is on the line (Table 10). -/
def sending (s : State) : Bool :=
  match s.slc.slot with
  | .sending _ => true
  | .empty => false
  | .deferred _ => false
  | .due _ => false

/-- An own LEAVE is on the line (R20). -/
def sendingLeave (s : State) : Bool :=
  match s.slc.slot with
  | .sending (.leave _) => true
  | .sending (.announce _ _) => false
  | .empty => false
  | .deferred _ => false
  | .due _ => false

/-- The kind of an own frame. -/
def frameKind : OwnFrame → FrameKind
  | .announce _ _ => .announce
  | .leave _ => .leave

/-- The frame an attempt of a kind carries, with the values as they are at its start bit (R4, R5). -/
def newFrame (im : Image) (s : State) : FrameKind → OwnFrame
  | .announce => .announce s.slc.sequence (announced im s)
  | .leave => .leave s.slc.sequence

/-- The LEAVE wait ends (R20): its timer has run out and no LEAVE attempt is left on the line, or the transmitter is no longer ON. -/
def leaveCheck (s : State) : State :=
  if s.slc.leaveWait && (s.slc.tx != .on || (s.slc.leaveExpired && !sendingLeave s)) then reinitialise s else s

/-- The slot after an attempt that did not complete (R3, R12): DUE again; in the LEAVE wait for the LEAVE (R20). -/
def retrySlot (s : State) (f : OwnFrame) : Slot := if s.slc.leaveWait then .due .leave else .due (frameKind f)

/-- ATTEMPT_START (R9): the slot is DUE, the transmitter ON and the line idle. -/
def execAttemptStart (s : State) : Host.Outcome State Fault Refusal :=
  .next (whenRunning s fun im =>
    match s.slc.slot with
    | .due kind =>
      if s.slc.tx = .on ∧ s.slc.lineIdle = true then
        { s with
          slc.slot := .sending (newFrame im s kind)
          slc.lineIdle := false
          slc.receiver := .quiet
          slc.drive := lineBits (frameBytes im.stationId (newFrame im s kind)) }
      else s
    | .sending _ => s
    | .empty => s
    | .deferred _ => s)

/-- ARBITRATION_LOSS (R3): the loss is counted, the frame stays due, and the rest of the winner's frame is received (R14). -/
def execArbitrationLoss (s : State) : Host.Outcome State Fault Refusal :=
  .next (whenRunning s fun _ =>
    match s.slc.slot with
    | .sending f =>
      leaveCheck { s with
        slc.arbitrationLosses := satAdd maxCount s.slc.arbitrationLosses 1
        slc.slot := retrySlot s f
        slc.tickOwed := false
        slc.receiver := .receiving
        slc.drive := [] }
    | .due _ => s
    | .empty => s
    | .deferred _ => s)

/-- The consecutive bit error count at which the transmitter rests (R13). -/
def restCount : Nat := 16

/-- What a bit error counts at the SLC (R12): both counts, and the slot DUE again; the line is then ignored until idle. -/
def abortFrame (f : OwnFrame) (s : State) : State :=
  { s with
    slc.bitErrors := satAdd maxCount s.slc.bitErrors 1
    slc.bitErrorRun := satAdd restCount s.slc.bitErrorRun 1
    slc.slot := retrySlot s f
    slc.tickOwed := false
    slc.receiver := .ignoring }

/-- The sixteenth consecutive bit error (R13). -/
def startRest (s : State) : State := { s with slc.tx := .resting, slc.restTimer := s.timerIn 1000 }

/-- A state with the abort pattern on the line. -/
def drivingAbort (s : State) : State := { s with slc.drive := abortPattern }

/-- BIT_ERROR (R12, R13). The pattern is driven and the line released before the error is counted, so it is what the part has driven
last also where the error ends the LEAVE wait (R20). -/
def execBitError (s : State) : Host.Outcome State Fault Refusal :=
  .next (whenRunning s fun im =>
    match s.slc.slot with
    | .sending f =>
      let t := abortFrame f s
      drivingAbort
        (leaveCheck (if t.slc.bitErrorRun = restCount then noteTransmitter im s (startRest t) else t))
    | .due _ => s
    | .empty => s
    | .deferred _ => s)

/-- REST_TIMER_EXPIRY (R13). -/
def execRestTimerExpiry (s : State) : Host.Outcome State Fault Refusal :=
  .next (whenRunning s fun im =>
    if s.slc.restTimer.isSome ∧ s.slc.tx = .resting then
      noteTransmitter im s { s with slc.restTimer := none, slc.tx := .on, slc.bitErrorRun := 0 }
    else s)

/-- R10 steps 1 and 2, with the part no longer driving. -/
def completeFrame (s : State) : State :=
  { s with slc.sequence := s.slc.sequence + 1, slc.bitErrorRun := 0, slc.receiver := .quiet, slc.drive := [] }

/-- R10 step 3: the unacknowledged count, or the report of an acknowledged completion. -/
def reportCompletion (im : Image) (acknowledged : Bool) (s : State) : State :=
  if acknowledged then noteAcknowledged im s
  else { s with slc.unacknowledged := satAdd maxCount s.slc.unacknowledged 1 }

/-- R10 steps 4 and 5 for an ANNOUNCE: the reference copy and the completion time, and the slot's next state. -/
def completeAnnounce (im : Image) (content : Announced) (s : State) : State :=
  { s with
    slc.reference := some content
    slc.lastDone := some s.now
    slc.tickOwed := false
    slc.slot :=
      if s.slc.leaveWait then .due .leave
      else if s.slc.tickOwed then .due .announce
      else if announced im s ≠ content then .deferred (s.now + quarterPeriod im)
      else .empty }

/-- OWN_FRAME_COMPLETION (R10); the completion of a LEAVE begins the reinitialisation (R20). -/
def execOwnFrameCompletion (acknowledged : Bool) (s : State) : Host.Outcome State Fault Refusal :=
  .next (whenRunning s fun im =>
    match s.slc.slot with
    | .sending (.announce _ content) => completeAnnounce im content (reportCompletion im acknowledged (completeFrame s))
    | .sending (.leave _) => reinitialise (reportCompletion im acknowledged (completeFrame s))
    | .due _ => s
    | .empty => s
    | .deferred _ => s)

/-- The part receives what is on the line: it is not sending, and it does not ignore the line (R14). -/
def receives (s : State) : Bool := !sending s && s.slc.receiver != .ignoring

/-- STUFF_VIOLATION (R14). It implies the start bit of its frame, so it is counted whether or not a FRAME_START_BIT came before it
(log 12). -/
def execStuffViolation (s : State) : Host.Outcome State Fault Refusal :=
  .next (whenRunning s fun _ =>
    if receives s then
      { s with
        slc.abortedSeen := satAdd maxCount s.slc.abortedSeen 1
        slc.receiver := .ignoring
        slc.lineIdle := false
        slc.drive := [] }
    else s)

/-- A received frame is discarded for bad length, bad check, id 0 or as malformed (R15). -/
def badFrame (bytes : List Byte) (lengthMarkDominant malformed : Bool) : Bool :=
  lengthMarkDominant || !checkGood bytes || frameId bytes == 0 || !fillersRecessive bytes || malformed

/-- A discarded frame (R15): it is counted, and the line is ignored until it is next idle. -/
def discardFrame (s : State) : State :=
  { s with
    slc.checkErrors := satAdd maxCount s.slc.checkErrors 1
    slc.receiver := .ignoring
    slc.lineIdle := false
    slc.drive := [] }

/-- The frame is over and its acknowledge slot is driven while the transmitter is ON (R16). -/
def acceptFrame (s : State) : State :=
  { s with
    slc.receiver := .quiet
    slc.lineIdle := false
    slc.drive := if s.slc.tx = .on then acknowledgeBit else [] }

/-- R17: the transmitter is BARRED, the rest timer stops, the slot is EMPTY, and ID CONFLICT is raised. -/
def barTransmitter (s : State) : State :=
  raise .idConflict
    { s with
      slc.tx := .barred
      slc.restTimer := none
      slc.slot := .empty
      slc.receiver := .quiet
      slc.lineIdle := false
      slc.drive := [] }

/-- An accepted frame with the own id (R17); the change of transmitter state is reported to the PRS (R35). -/
def conflictFrame (im : Image) (s : State) : State :=
  let t := barTransmitter s
  leaveCheck (if s.slc.tx = .barred then t else noteTransmitter im s t)

/-- The judgement at the length mark (R15), and what it leads to. -/
def judgeFrame (im : Image) (bytes : List Byte) (lengthMarkDominant malformed : Bool) (deliver : State → State) (s : State) :
    State :=
  if receives s then
    if badFrame bytes lengthMarkDominant malformed then discardFrame s
    else if frameId bytes = im.stationId then conflictFrame im s
    else deliver (acceptFrame s)
  else s

/-- ANNOUNCE_RECEIVED (R15 to R18, R23, R24). -/
def execAnnounceReceived (frame : Vector Byte 21) (lengthMarkDominant : Bool) (s : State) :
    Host.Outcome State Fault Refusal :=
  .next (whenRunning s fun im =>
    let bytes := frame.toList
    match receivedAnnounce bytes with
    | none => judgeFrame im bytes lengthMarkDominant true (fun s => s) s
    | some c =>
      judgeFrame im bytes lengthMarkDominant false (deliverAnnounce im (frameId bytes) (frameSequence bytes) c) s)

/-- LEAVE_RECEIVED (R15 to R18, R26). -/
def execLeaveReceived (frame : Vector Byte 4) (lengthMarkDominant : Bool) (s : State) : Host.Outcome State Fault Refusal :=
  .next (whenRunning s fun im =>
    judgeFrame im frame.toList lengthMarkDominant false (deliverLeave im (frameId frame.toList)) s)

/-- LINE_IDLE (R1): ten recessive bit times, so no own frame is on the line. -/
def execLineIdle (s : State) : Host.Outcome State Fault Refusal :=
  .next (if sending s then s else { s with slc.lineIdle := true, slc.receiver := .quiet, slc.drive := [] })

/-- FRAME_START_BIT (R1): a dominant bit on an idle line; a RUNNING part begins to receive. -/
def execFrameStartBit (s : State) : Host.Outcome State Fault Refusal :=
  .next (if s.slc.lineIdle then
      whenRunning { s with slc.lineIdle := false } fun _ => { s with slc.lineIdle := false, slc.receiver := .receiving }
    else s)

/-- LEAVE_TIMER_EXPIRY (R20): the wait ends at once, or after the LEAVE attempt that is on the line. -/
def execLeaveTimerExpiry (s : State) : Host.Outcome State Fault Refusal :=
  .next (whenRunning s fun _ =>
    if s.slc.leaveWait ∧ s.slc.leaveTimer.isSome then
      leaveCheck { s with slc.leaveTimer := none, slc.leaveExpired := true }
    else s)

/-- SHARE_PERIOD_TICK (R7, R8, R42). -/
def execSharePeriodTick (s : State) : Host.Outcome State Fault Refusal :=
  .next (whenRunning s fun im =>
    tickRoster im (tickCause { s with slc.shareTick := s.timerIn im.sharePeriod }))

/-- QUARTER_PERIOD_MARK (R8): a DEFERRED slot becomes DUE. -/
def execQuarterPeriodMark (s : State) : Host.Outcome State Fault Refusal :=
  .next (whenRunning s fun _ =>
    match s.slc.slot with
    | .deferred _ => { s with slc.slot := .due .announce }
    | .due _ => s
    | .sending _ => s
    | .empty => s)

end Sys2Proof.Machine
end

