-- ==== Sys2Proof/Machine/Link.lean ====
section
/-! DEFINITION. The meanings of the Grant Logic's rows (spec/04): the rise hold, setpoint words, confirmations, the confirm timer
and the park hold. -/

namespace Sys2Proof.Machine

/-- RISE_HOLD_EXPIRY (R77): a rise evaluation, or a wait while a decrease is unconfirmed. -/
def execRiseHoldExpiry (s : State) : Host.Outcome State Fault Refusal :=
  .next (whenRunning s fun im =>
    if s.grl.riseHold.isSome then
      let t := { s with grl.riseHold := none }
      if noneUnconfirmed t then noted im (evaluateRises im) t
      else { t with grl.riseWaiting := true }
    else s)

/-- A rise of SETTLED is in the filter: low is recognised and a run of the other level has begun (R74, R94). -/
def riseInFilter (u : OutletState) : Bool := !u.settled.level && decide (0 < u.settled.run)

/-- The end of a setpoint word (R71): a further word follows if one is owed, and a rise of SETTLED already in the filter is one from
an earlier word (R74). -/
def endWord (u : OutletState) : OutletState :=
  let g := { u.grl with earlierRise := riseInFilter u }
  { u with grl := if g.wordAgain then beginWord g else { g with word := none, wordLeft := 0 } }

/-- SETPOINT_WORD_END (R71, R213). -/
def execSetpointWordEnd (o : Outlet) (s : State) : Host.Outcome State Fault Refusal :=
  .next (whenFitted s o fun _ => if (s.out o).grl.word.isSome then s.modOut o endWord else s)

/-- SETTLED recognised high, with no rise left in the filter. -/
def settledHigh (u : OutletState) : OutletState :=
  { u with settled := recognise true u.settled, grl.earlierRise := false }

/-- A recognised rise of SETTLED is a confirmation (R74): it is of the latest word, which has ended, and a decrease is unconfirmed. -/
def confirms (g : Grl) : Bool := g.unconfirmed && g.word.isNone && !g.earlierRise

/-- CONFIRMATION (R74, R85); a rise that is no confirmation is ignored. -/
def execConfirmation (o : Outlet) (s : State) : Host.Outcome State Fault Refusal :=
  .next (whenFitted s o fun im =>
    if (s.out o).settled.level then s
    else
      let t := s.modOut o settledHigh
      if confirms (s.out o).grl then outletEvent im s (reportOutput im o (confirmDecrease im o t)) else t)

/-- SETTLED_RECOGNISED_LOW (R94). -/
def execSettledRecognisedLow (o : Outlet) (s : State) : Host.Outcome State Fault Refusal :=
  .next (whenFitted s o fun _ =>
    if (s.out o).settled.level then s.modOut o fun u => { u with settled := recognise false u.settled } else s)

/-- CONFIRM_TIMEOUT (R75). -/
def execConfirmTimeout (o : Outlet) (s : State) : Host.Outcome State Fault Refusal :=
  .next (whenFitted s o fun im =>
    if (s.out o).grl.confirmTimer.isSome then
      tripEvent im o .confirmTimeout (s.modOut o fun u => { u with grl.confirmTimer := none })
    else s)

/-- PARK_HOLD_EXPIRY (R81): the timer is marked expired. -/
def execParkHoldExpiry (o : Outlet) (s : State) : Host.Outcome State Fault Refusal :=
  .next (whenFitted s o fun _ =>
    match (s.out o).grl.parkHold with
    | .running _ => s.modOut o fun u => { u with grl.parkHold := .expired }
    | .stopped => s
    | .expired => s)

end Sys2Proof.Machine
end

