-- ==== Sys2Proof/Machine/Meter.lean ====
section
/-! DEFINITION. The meanings of the rows of the Meter Front, the dwell minute and the tariff clock (spec/06, spec/07, spec/08). -/

namespace Sys2Proof.Machine

/-- The end of the range of intervals, estimates and the capture counter (R120). -/
def maxInterval : Nat := 65535

/-- The power estimate from an interval of `n` units (R128). -/
def estimateOf (pulseWeight n : Nat) : Nat := min maxInterval (pulseWeight * 360000 / n)

/-- The smoothed power at an estimate (R130, R131): the signed difference over 2^β, rounded toward zero; outright at a reseed. -/
def smooth (beta : Nat) (reseed : Bool) (smoothed estimate : Nat) : Nat :=
  if reseed then estimate else ((smoothed : Int) + Int.tdiv ((estimate : Int) - smoothed) (2 ^ beta)).toNat

/-- The Meter Front at an estimate (R127, R130, R131). -/
def takeEstimate (im : Image) (n : Nat) (m : Mtf) : Mtf :=
  let e := estimateOf im.pulseWeight n
  { m with
    counter := 0, lastInterval := some n, lastEstimate := some e
    smoothed := smooth im.beta m.reseed m.smoothed e, reseed := false }

/-- The over-draw count at an estimate (R132, R133). -/
def overDrawAfter (im : Image) (g : Grl) (m : Mtf) : Nat :=
  if g.unconfirmed then 0
  else if g.inEffect + im.tolerance < m.smoothed then m.overDraw + 1
  else 0

/-- The over-draw test (R132): a count at the limit is reported and set to 0 (R134), and the outlet trips. -/
def testOverDraw (im : Image) (o : Outlet) (s : State) : State :=
  let n := overDrawAfter im (s.out o).grl (s.out o).mtf
  if im.overDrawLimit ≤ n then tripEvent im o .overDraw (s.modOut o fun u => { u with mtf.overDraw := 0 })
  else s.modOut o fun u => { u with mtf.overDraw := n }

/-- Timing starts from this pulse, without an estimate (R127). -/
def startTiming (m : Mtf) : Mtf := { m with capture := .timing, counter := 0 }

/-- The interval capture of a billed pulse (R127), with the over-draw test at an estimate. An interval is at least 1 unit. -/
def captureInterval (im : Image) (o : Outlet) (s : State) : State :=
  match (s.out o).mtf.capture with
  | .off => s
  | .waiting => s.modOut o fun u => { u with mtf := startTiming u.mtf }
  | .timedOut => s.modOut o fun u => { u with mtf := startTiming u.mtf }
  | .timing => testOverDraw im o (s.modOut o fun u => { u with mtf := takeEstimate im (max 1 u.mtf.counter) u.mtf })

/-- The pricing and accrual of a billed pulse (R125 step 1, R150, R160). -/
def accruePulse (im : Image) (o : Outlet) (p : Priced) (s : State) : State :=
  let fee := (boundBank s o).sessionFee.toNat
  (noteLookup o p s).modOut o fun u => { u with acc := accrue im.pulseWeight fee p u.acc }

/-- The credit check of a billed pulse (R164): in DISPENSING alone. -/
def checkCredit (im : Image) (o : Outlet) (p : Priced) (s : State) : State :=
  let u := s.out o
  if u.osc.state = .dispensing ∧ creditReached u.osc.header.hold im.stopReserve p.price u.acc.total then exhaust im o s
  else s

/-- A billed pulse (R125): pricing, accrual and the credit check, then the capture and the over-draw test. -/
def billPulse (im : Image) (o : Outlet) (s : State) : State :=
  let p := priceAt im s o
  let t := accruePulse im o p s
  captureInterval im o (outletEvent im t (checkCredit im o p t))

/-- A stray pulse (R124). -/
def strayPulse (o : Outlet) (s : State) : State :=
  raise .strayPulse (s.modOut o fun u => { u with mtf.stray := satAdd maxInterval u.mtf.stray 1 })

/-- METER_PULSE (R121, R123). -/
def execMeterPulse (o : Outlet) (s : State) : Host.Outcome State Fault Refusal :=
  .next (whenFitted s o fun im =>
    if (s.out o).mtf.pulse.level then s
    else
      let t := s.modOut o fun u => { u with mtf.pulse := recognise true u.mtf.pulse }
      if inSession (s.out o).osc.state then billPulse im o t else strayPulse o t)

/-- PULSE_RECOGNISED_INACTIVE (R121). -/
def execPulseRecognisedInactive (o : Outlet) (s : State) : Host.Outcome State Fault Refusal :=
  .next (whenFitted s o fun _ =>
    if (s.out o).mtf.pulse.level then s.modOut o fun u => { u with mtf.pulse := recognise false u.mtf.pulse } else s)

/-- A no-flow (R129). -/
def endFlow (m : Mtf) : Mtf :=
  { m with capture := .timedOut, counter := maxInterval, lastEstimate := some 0, smoothed := 0, overDraw := 0 }

/-- NO_FLOW (R129): it comes in TIMING alone. -/
def execNoFlow (o : Outlet) (s : State) : Host.Outcome State Fault Refusal :=
  .next (whenFitted s o fun _ =>
    if (s.out o).mtf.capture = .timing then s.modOut o fun u => { u with mtf := endFlow u.mtf } else s)

/-- The dwell clock runs: the outlet is in DWELL and occupancy has not stopped (R166). -/
def dwells (u : OutletState) : Bool := u.osc.state == .dwell && !u.acc.stopped

/-- DWELL_MINUTE (R166, R167). -/
def execDwellMinute (o : Outlet) (s : State) : Host.Outcome State Fault Refusal :=
  .next (whenFitted s o fun _ =>
    if dwells (s.out o) then
      let r := dwellMinute (s.out o).osc.header.hold (boundBank s o) (s.out o).acc s.draws
      { s.modOut o (fun u => { u with acc := r.1 }) with draws := r.2 }
    else s)

/-- TARIFF_CLOCK_ADVANCE (R147): in every configured state. -/
def execTariffClockAdvance (s : State) : Host.Outcome State Fault Refusal :=
  .next { s with tru.clock := advanceClock s.tru.clock, clockTickDue := false }

end Sys2Proof.Machine
end

