-- ==== Sys2Proof/Machine/OutletInputs.lean ====
section
/-! DEFINITION. The meanings of the Outlet Session Controller's rows (spec/05): recognised changes of E-STOP, HOLD, FAULT and
FEEDBACK, and the expiry of its three timers. A level event that finds its level already recognised is no change (log 12). -/

namespace Sys2Proof.Machine

/-- Whether an E-STOP trips outlet B first: it matters only while a rise waits, and is then a free value (log 4). -/
def tripsB (s : State) : Bool := s.grl.riseWaiting && Config.tripsBFirst s.draws

/-- Both outlets tripped in the one event (R109). -/
def tripBoth (im : Image) (s : State) : State :=
  let t := if s.grl.riseWaiting then { s with draws := s.draws + 1 } else s
  if tripsB s then trip im .a .eStop (trip im .b .eStop t) else trip im .b .eStop (trip im .a .eStop t)

/-- E_STOP_ASSERTED (R109). -/
def execEStopAsserted (s : State) : Host.Outcome State Fault Refusal :=
  .next (whenRunning s fun im =>
    if s.eStop.level then s
    else outletEvent im s (tripBoth im { s with eStop := recognise true s.eStop }))

/-- E_STOP_RELEASED (R109). -/
def execEStopReleased (s : State) : Host.Outcome State Fault Refusal :=
  .next (whenRunning s fun _ => if s.eStop.level then { s with eStop := recognise false s.eStop } else s)

/-- HOLD_CHANGE (R101): the start condition is tested; in any other state than STARTING the change has no effect (R110). -/
def execHoldChange (o : Outlet) (released : Bool) (s : State) : Host.Outcome State Fault Refusal :=
  .next (whenFitted s o fun im =>
    if (s.out o).hold.level = !released then s
    else outletEvent im s (testStart o (s.modOut o fun u => { u with hold := recognise (!released) u.hold })))

/-- FAULT_ASSERTED (R110). -/
def execFaultAsserted (o : Outlet) (s : State) : Host.Outcome State Fault Refusal :=
  .next (whenFitted s o fun im =>
    if (s.out o).fault.level then s
    else outletEvent im s (trip im o .moduleFault (s.modOut o fun u => { u with fault := recognise true u.fault })))

/-- FAULT_RELEASED (R110). -/
def execFaultReleased (o : Outlet) (s : State) : Host.Outcome State Fault Refusal :=
  .next (whenFitted s o fun _ =>
    if (s.out o).fault.level then s.modOut o fun u => { u with fault := recognise false u.fault } else s)

/-- FEEDBACK recognised closed stops the mismatch timer (R97). -/
def feedbackShut (u : OutletState) : OutletState :=
  { u with feedback := recognise true u.feedback, osc.mismatchTimer := none }

/-- FEEDBACK_CLOSED (R97, R101). -/
def execFeedbackClosed (o : Outlet) (s : State) : Host.Outcome State Fault Refusal :=
  .next (whenFitted s o fun im =>
    if (s.out o).feedback.level then s else outletEvent im s (testStart o (s.modOut o feedbackShut)))

/-- An outlet in OPEN WAIT (R113). -/
def inOpenWait (c : Osc) : Bool := c.state == .closing && c.closePhase == some .openWait

/-- What FEEDBACK recognised open does (R114, R87, R97): it completes a close in OPEN WAIT, lowers a tripped grant, or starts the
mismatch timer under a closed drive. -/
def feedbackOpened (im : Image) (o : Outlet) (s : State) : State :=
  if inOpenWait (s.out o).osc then completeClose o s
  else if (s.out o).osc.state = .tripped then s.modOut o fun u => { u with grl.inEffect := 0 }
  else if (s.out o).osc.driveClosed then s.modOut o fun u => { u with osc.mismatchTimer := s.timerIn im.feedbackTime }
  else s

/-- FEEDBACK_OPEN (R114, R87, R97, R98). -/
def execFeedbackOpen (o : Outlet) (s : State) : Host.Outcome State Fault Refusal :=
  .next (whenFitted s o fun im =>
    if (s.out o).feedback.level then
      outletEvent im s (feedbackOpened im o (s.modOut o fun u => { u with feedback := recognise false u.feedback }))
    else s)

/-- MISMATCH_TIMER_EXPIRY (R97). -/
def execMismatchTimerExpiry (o : Outlet) (s : State) : Host.Outcome State Fault Refusal :=
  .next (whenFitted s o fun im =>
    if (s.out o).osc.mismatchTimer.isSome then
      tripEvent im o .contactor (s.modOut o fun u => { u with osc.mismatchTimer := none })
    else s)

/-- START_TIMER_EXPIRY (R101). -/
def execStartTimerExpiry (o : Outlet) (s : State) : Host.Outcome State Fault Refusal :=
  .next (whenFitted s o fun im =>
    if (s.out o).osc.startTimer.isSome then
      tripEvent im o .startTimeout (s.modOut o fun u => { u with osc.startTimer := none })
    else s)

/-- CLOSE_TIMER_EXPIRY (R114): FORCED OPEN, and the close completes. -/
def execCloseTimerExpiry (o : Outlet) (s : State) : Host.Outcome State Fault Refusal :=
  .next (whenFitted s o fun im =>
    if (s.out o).osc.closeTimer.isSome ∧ inOpenWait (s.out o).osc then
      outletEvent im s (completeClose o (s.modOut o fun u => { u with osc.forcedOpen := true }))
    else s)

end Sys2Proof.Machine
end

