-- ==== Sys2Proof/Machine/Dispatch.lean ====
section
/-! DEFINITION. The meaning of every command: one arm per row of spec/opcode_table.json, in the order of Syntax.lean. -/

namespace Sys2Proof.Machine

def exec (i : Instr) (s : State) : Host.Outcome State Fault Refusal :=
  match i with
  | .powerOn => Sys2Proof.Machine.execPowerOn s
  | .resetLineAsserted => Sys2Proof.Machine.execResetLineAsserted s
  | .resetLineReleased => Sys2Proof.Machine.execResetLineReleased s
  | .configurationReadEnd result => Sys2Proof.Machine.execConfigurationReadEnd result s
  | .passTimeout => Sys2Proof.Machine.execPassTimeout s
  | .pending => Sys2Proof.Machine.execPending s
  | .unknownCommand bytes => Sys2Proof.Machine.execUnknownCommand bytes s
  | .nop => Sys2Proof.Machine.execNop s
  | .status => Sys2Proof.Machine.execStatus s
  | .lineStatus => Sys2Proof.Machine.execLineStatus s
  | .configure image => Sys2Proof.Machine.execConfigure image s
  | .setClock minute seconds => Sys2Proof.Machine.execSetClock minute seconds s
  | .openSession outlet reference hold tier demand floor => Sys2Proof.Machine.execOpenSession outlet reference hold tier demand floor s
  | .setDemand outlet demand floor complete => Sys2Proof.Machine.execSetDemand outlet demand floor complete s
  | .closeSession outlet => Sys2Proof.Machine.execCloseSession outlet s
  | .outletStatus outlet => Sys2Proof.Machine.execOutletStatus outlet s
  | .rosterRead id => Sys2Proof.Machine.execRosterRead id s
  | .tariffLoad bank image => Sys2Proof.Machine.execTariffLoad bank image s
  | .tariffSelect bank => Sys2Proof.Machine.execTariffSelect bank s
  | .tariffRead bank => Sys2Proof.Machine.execTariffRead bank s
  | .recordPeek => Sys2Proof.Machine.execRecordPeek s
  | .recordRelease => Sys2Proof.Machine.execRecordRelease s
  | .events clear => Sys2Proof.Machine.execEvents clear s
  | .eventEnable enable => Sys2Proof.Machine.execEventEnable enable s
  | .restart => Sys2Proof.Machine.execRestart s
  | .leaveTimerExpiry => Sys2Proof.Machine.execLeaveTimerExpiry s
  | .sharePeriodTick => Sys2Proof.Machine.execSharePeriodTick s
  | .quarterPeriodMark => Sys2Proof.Machine.execQuarterPeriodMark s
  | .attemptStart => Sys2Proof.Machine.execAttemptStart s
  | .arbitrationLoss => Sys2Proof.Machine.execArbitrationLoss s
  | .bitError => Sys2Proof.Machine.execBitError s
  | .restTimerExpiry => Sys2Proof.Machine.execRestTimerExpiry s
  | .ownFrameCompletion acknowledged => Sys2Proof.Machine.execOwnFrameCompletion acknowledged s
  | .stuffViolation => Sys2Proof.Machine.execStuffViolation s
  | .announceReceived frame lengthMarkDominant => Sys2Proof.Machine.execAnnounceReceived frame lengthMarkDominant s
  | .leaveReceived frame lengthMarkDominant => Sys2Proof.Machine.execLeaveReceived frame lengthMarkDominant s
  | .riseHoldExpiry => Sys2Proof.Machine.execRiseHoldExpiry s
  | .setpointWordEnd o => Sys2Proof.Machine.execSetpointWordEnd o s
  | .confirmation o => Sys2Proof.Machine.execConfirmation o s
  | .confirmTimeout o => Sys2Proof.Machine.execConfirmTimeout o s
  | .parkHoldExpiry o => Sys2Proof.Machine.execParkHoldExpiry o s
  | .eStopAsserted => Sys2Proof.Machine.execEStopAsserted s
  | .eStopReleased => Sys2Proof.Machine.execEStopReleased s
  | .holdChange o released => Sys2Proof.Machine.execHoldChange o released s
  | .faultAsserted o => Sys2Proof.Machine.execFaultAsserted o s
  | .faultReleased o => Sys2Proof.Machine.execFaultReleased o s
  | .feedbackClosed o => Sys2Proof.Machine.execFeedbackClosed o s
  | .feedbackOpen o => Sys2Proof.Machine.execFeedbackOpen o s
  | .mismatchTimerExpiry o => Sys2Proof.Machine.execMismatchTimerExpiry o s
  | .startTimerExpiry o => Sys2Proof.Machine.execStartTimerExpiry o s
  | .closeTimerExpiry o => Sys2Proof.Machine.execCloseTimerExpiry o s
  | .meterPulse o => Sys2Proof.Machine.execMeterPulse o s
  | .noFlow o => Sys2Proof.Machine.execNoFlow o s
  | .dwellMinute o => Sys2Proof.Machine.execDwellMinute o s
  | .lineIdle => Sys2Proof.Machine.execLineIdle s
  | .frameStartBit => Sys2Proof.Machine.execFrameStartBit s
  | .settledRecognisedLow o => Sys2Proof.Machine.execSettledRecognisedLow o s
  | .pulseRecognisedInactive o => Sys2Proof.Machine.execPulseRecognisedInactive o s
  | .tariffClockAdvance => Sys2Proof.Machine.execTariffClockAdvance s
  | .chipSelectRise bytes => Sys2Proof.Machine.execChipSelectRise bytes s

end Sys2Proof.Machine
end

