-- ==== Sys2Proof/Machine/Timebase.lean ====
section
/-! DEFINITION. The part's own time (spec/00, Time): what 0.1 ms does, and the internal events that fall due. Both happen only while
no command waits (assumption log 1). -/

namespace Sys2Proof.Machine

/-- One outlet at a 0.1 ms sample: the meter filter (R121), the capture counter while TIMING (R127), the setpoint word (R213). -/
def tenthOutlet (im : Image) (u : OutletState) : OutletState :=
  { u with
    mtf.pulse := sampleFilter im.meterDepth u.mtf.pulse
    mtf.counter := if u.mtf.capture = .timing then satAdd maxInterval u.mtf.counter 1 else u.mtf.counter
    grl.wordLeft := u.grl.wordLeft - 1 }

/-- The four input filters of an outlet at a 1 ms sample (R94); a rise of SETTLED that has left the filter is forgotten (R74). -/
def sampleOutlet (im : Image) (u : OutletState) : OutletState :=
  let settled := sampleFilter im.filterDepth u.settled
  { u with
    hold := sampleFilter im.filterDepth u.hold
    settled := settled
    fault := sampleFilter im.filterDepth u.fault
    feedback := sampleFilter im.filterDepth u.feedback
    grl.earlierRise := u.grl.earlierRise && decide (0 < settled.run) }

/-- The ms counts of an outlet's session at a tick: session time (R93), parked time (R90), dwell clock (R166). The second component
counts the free values drawn. -/
def countOutlet (u : OutletState) (draws : Nat) : OutletState × Nat :=
  let parked := if u.osc.state = .parked then bump max32 u.grl.parkedMs draws else (u.grl.parkedMs, draws)
  let dwell := if dwells u then bump max32 u.acc.dwellClock parked.2 else (u.acc.dwellClock, parked.2)
  ({ u with
      osc.sessionTime := if inSession u.osc.state then satAdd max32 u.osc.sessionTime 1 else u.osc.sessionTime
      grl.parkedMs := parked.1
      acc.dwellClock := dwell.1 },
    dwell.2)

/-- One fitted outlet at a 1 ms tick. -/
def tickOutlet (im : Image) (o : Outlet) (s : State) : State :=
  if fitted im o then
    let r := countOutlet (sampleOutlet im (s.out o)) s.draws
    { s.setOut o r.1 with draws := r.2 }
  else s

/-- The pass under way of a configuration read grows 1 ms older (R204). -/
def ageRead : Configured → Configured
  | .loading (some read) => .loading (some { read with elapsed := read.elapsed + 1 })
  | .loading none => .loading none
  | .unconfigured => .unconfigured
  | .running im => .running im

/-- A 1 ms tick of the timebase: a SET clock has a tick to take (R147), the read ages, and a RUNNING part samples and counts. -/
def tickMs (s : State) : State :=
  let s := { s with now := s.now + 1, clockTickDue := s.tru.clock.set, configured := ageRead s.configured }
  whenRunning s fun im =>
    tickOutlet im .b (tickOutlet im .a { s with eStop := sampleFilter im.filterDepth s.eStop })

/-- 0.1 ms passes at a fitted outlet. -/
def tenthAt (im : Image) (o : Outlet) (s : State) : State := if fitted im o then s.modOut o (tenthOutlet im) else s

/-- 0.1 ms passes; every tenth sample is a 1 ms tick. -/
def advance (s : State) : State :=
  let s := whenRunning s fun im => tenthAt im .b (tenthAt im .a s)
  if s.phase < 9 then { s with phase := s.phase + 1 } else tickMs { s with phase := 0 }

/-- A timer that runs has reached its time. -/
def ranOut (s : State) (t : Timer) : Bool :=
  match t with
  | some time => decide (time ≤ s.now)
  | none => false

/-- A list of the one event when it is due. -/
def dueIf (p : Bool) (i : Instr) : List Instr := if p then [i] else []

/-- A filter whose run count has reached the depth has a recognition due (R94, R121). -/
def recognises (depth : Nat) (f : Filter) : Bool := decide (depth ≤ f.run)

/-- The recognition due at a filter, by the level that has been recognised so far. -/
def dueLevel (depth : Nat) (f : Filter) (rise fall : Instr) : List Instr :=
  dueIf (recognises depth f) (if f.level then fall else rise)

/-- The park hold has run out (R81). -/
def parkDue (s : State) (u : OutletState) : Bool :=
  match u.grl.parkHold with
  | .running time => decide (time ≤ s.now)
  | .stopped => false
  | .expired => false

/-- A pulse is recognised at this sample (R127). -/
def pulseDue (im : Image) (u : OutletState) : Bool := recognises im.meterDepth u.mtf.pulse && !u.mtf.pulse.level

/-- The events due at one fitted outlet. Past the range of the dwell clock no dwell minute falls due of itself (log 3). -/
def dueOutlet (im : Image) (s : State) (o : Outlet) : List Instr :=
  let u := s.out o
  if fitted im o then
    dueIf (u.grl.word.isSome && u.grl.wordLeft == 0) (.setpointWordEnd o) ++
      dueIf (ranOut s u.grl.confirmTimer) (.confirmTimeout o) ++
      dueIf (parkDue s u) (.parkHoldExpiry o) ++
      dueLevel im.filterDepth u.hold (.holdChange o false) (.holdChange o true) ++
      dueLevel im.filterDepth u.settled (.confirmation o) (.settledRecognisedLow o) ++
      dueLevel im.filterDepth u.fault (.faultAsserted o) (.faultReleased o) ++
      dueLevel im.filterDepth u.feedback (.feedbackClosed o) (.feedbackOpen o) ++
      dueIf (ranOut s u.osc.mismatchTimer) (.mismatchTimerExpiry o) ++
      dueIf (ranOut s u.osc.startTimer) (.startTimerExpiry o) ++
      dueIf (ranOut s u.osc.closeTimer && inOpenWait u.osc) (.closeTimerExpiry o) ++
      dueLevel im.meterDepth u.mtf.pulse (.meterPulse o) (.pulseRecognisedInactive o) ++
      dueIf (u.mtf.capture == .timing && decide (maxInterval ≤ u.mtf.counter) && !pulseDue im u) (.noFlow o) ++
      dueIf (dwells u && decide (60000 * (u.acc.dwellMinutes + 1) ≤ u.acc.dwellClock)) (.dwellMinute o)
  else []

/-- The slot owes an attempt (R9). -/
def attemptDue (s : State) : Bool :=
  match s.slc.slot with
  | .due _ => s.slc.tx == .on && s.slc.lineIdle
  | .empty => false
  | .deferred _ => false
  | .sending _ => false

/-- The quarter-period mark is reached (R8). -/
def markDue (s : State) : Bool :=
  match s.slc.slot with
  | .deferred mark => decide (mark ≤ s.now)
  | .empty => false
  | .due _ => false
  | .sending _ => false

/-- The events due on the line, at the station's timers and at E-STOP. -/
def dueStation (im : Image) (s : State) : List Instr :=
  dueIf (ranOut s s.slc.shareTick) .sharePeriodTick ++ dueIf (markDue s) .quarterPeriodMark ++
    dueIf (attemptDue s) .attemptStart ++
    dueIf (ranOut s s.slc.restTimer && s.slc.tx == .resting) .restTimerExpiry ++
    dueIf (ranOut s s.slc.leaveTimer && s.slc.leaveWait) .leaveTimerExpiry ++
    dueIf (ranOut s s.grl.riseHold) .riseHoldExpiry ++
    dueLevel im.filterDepth s.eStop .eStopAsserted .eStopReleased

/-- The limit of a pass in ms (R204). -/
def passLimit : Nat := 100

/-- A configuration read that has failed ends, and one whose pass has lasted its limit fails (R204; log 14). -/
def dueRead (read : ConfigRead) : List Instr :=
  if read.failed then [.configurationReadEnd .noAcknowledge] else dueIf (decide (passLimit ≤ read.elapsed)) .passTimeout

/-- The command that is executing (R182). -/
def dueCommand (s : State) : List Instr :=
  match s.hpt.captured with
  | some bytes => [commandOf bytes]
  | none => []

/-- The internal events due now. -/
def dueEvents (s : State) : List Instr :=
  dueIf s.clockTickDue .tariffClockAdvance ++
    match s.configured with
    | .loading (some read) => dueRead read
    | .loading none => []
    | .unconfigured => dueCommand s
    | .running im =>
      (if s.slc.leaveWait then [] else dueCommand s) ++ dueStation im s ++ dueOutlet im s .a ++ dueOutlet im s .b

end Sys2Proof.Machine
end

