-- ==== Sys2Proof/Machine/Step.lean ====
section
/-! DEFINITION. One step: the command at the front of the queue; with none waiting, an internal event that is due; with none due,
0.1 ms (assumption logs 1 and 2). -/

namespace Sys2Proof.Machine

/-- With no command waiting: the one internal event due, one of several by a free value, or the passing of 0.1 ms. -/
def idleStep (s : State) : List Instr → Host.Outcome State Fault Refusal
  | [] => .next (advance s)
  | [i] => exec i s
  | i :: j :: rest =>
    exec ((i :: j :: rest).getD (Config.duePick s.draws % (i :: j :: rest).length) i) { s with draws := s.draws + 1 }

/-- One step. -/
def step (s : State) : Host.Outcome State Fault Refusal :=
  match s.pending with
  | c :: rest => exec c { s with pending := rest }
  | [] => idleStep s (dueEvents s)

/-- The state with the command a word spells put in front of the queue; no row of the table spells one. -/
def State.withFetchWord (s : State) (nbits w : Nat) : State :=
  match decodeTableWord nbits w with
  | some c => { s with pending := c :: s.pending }
  | none => s

end Sys2Proof.Machine
end

