-- ==== Sys2Proof/Safety.lean ====
section
/-! DEFINITION. What the machine keeps at every step, from the spec's own words: the settlement queue's numbering (R173), the
grant relations (R69, R84), the contactor and its timers (R96 to R98, R117), the bound bank (R141, R145), the roster (R22) and the
transmit slot (R11). Each is a predicate over one state. -/

namespace Sys2Proof.Machine

/-- The image in force passed the tests of R206 and R207. -/
def ImageOk (s : State) : Prop := ∀ im, s.configured = .running im → itemsInRange im = true ∧ relationsHold im = true

/-- R173: at most 8 records, and their sequence numbers run consecutively modulo 65536 up to the counter. -/
def QueueNumbered (s : State) : Prop :=
  s.stu.queue.length ≤ 8 ∧
    ∀ (i : Nat) (r : Record), s.stu.queue[i]? = some r →
      r.sequence = s.stu.counter - BitVec.ofNat 16 (s.stu.queue.length - i)

/-- An outlet with no session and no grant (R93, an outlet not fitted; R202, a part that is not RUNNING). -/
def AtRest (u : OutletState) : Prop :=
  u.osc.state = .idle ∧ u.grl.target = 0 ∧ u.grl.commanded = 0 ∧ u.grl.inEffect = 0 ∧ u.grl.pending = none

/-- The relations of R69 and R84 at one outlet: the setpoint within the rating and the in-effect grant, 0 outside DISPENSING, and a
pending rise above it and at most the target. -/
def OutletGrants (im : Image) (o : Outlet) (u : OutletState) : Prop :=
  (fitted im o = false → AtRest u) ∧ u.grl.commanded ≤ pOut im o ∧ u.grl.commanded ≤ u.grl.inEffect ∧
    (u.osc.state ≠ .dispensing → u.grl.commanded = 0 ∧ u.grl.pending = none) ∧
    ∀ p, u.grl.pending = some p → u.grl.commanded < p ∧ p ≤ u.grl.target ∧ u.grl.target ≤ pOut im o

/-- The relations of R69 and R84; outside RUNNING nothing is granted. -/
def GrantsSafe (s : State) : Prop :=
  match s.configured with
  | .running im =>
    OutletGrants im .a s.outA ∧ OutletGrants im .b s.outB ∧ s.outA.grl.commanded + s.outB.grl.commanded ≤ im.pMax
  | .loading _ => AtRest s.outA ∧ AtRest s.outB
  | .unconfigured => AtRest s.outA ∧ AtRest s.outB

/-- The contactor drive each session state has (R96). -/
def driveOf (c : Osc) : Bool :=
  match c.state with
  | .idle => false
  | .settleWait => false
  | .tripped => false
  | .starting => true
  | .dispensing => true
  | .parked => true
  | .dwell => true
  | .exhausted => true
  | .closing => c.closePhase == some .outputWait

/-- R96 to R98, R101 and R114 at one outlet: the drive is that of the state, there is a close phase in CLOSING alone, and the
mismatch, start and close timers run only where they may. -/
def OutletDrive (u : OutletState) : Prop :=
  u.osc.driveClosed = driveOf u.osc ∧ (u.osc.closePhase.isSome = true ↔ u.osc.state = .closing) ∧
    (u.osc.mismatchTimer.isSome = true → u.osc.driveClosed = true ∧ u.feedback.level = false) ∧
    (u.osc.startTimer.isSome = true → u.osc.state = .starting) ∧
    (u.osc.closeTimer.isSome = true → u.osc.state = .closing ∧ u.osc.closePhase = some .openWait)

/-- R96 and R117: both contactors as their states say, and the settle-wait order lists, once each, the outlets in SETTLE_WAIT. -/
def SessionsSafe (s : State) : Prop :=
  OutletDrive s.outA ∧ OutletDrive s.outB ∧ s.stu.settleWait.Nodup ∧
    ∀ o, o ∈ s.stu.settleWait ↔ (s.out o).osc.state = .settleWait

/-- R138: the header's record of the bound bank and the binding are set and cleared together, and while they stand the header reads that bank
(R93). R141 and R145: the bank a session is bound to is LOADED and still has the version its header records. -/
def BoundBankKept (s : State) : Prop :=
  ∀ o, (s.out o).osc.header.binding.map Prod.fst = (s.out o).tru.binding ∧
    (∀ x, (s.out o).osc.header.binding = some x → (s.out o).osc.header.bound = some x) ∧
    (inSession (s.out o).osc.state = true →
      ∃ b x, (s.out o).tru.binding = some b ∧ s.tru.bank b = some x ∧ (s.out o).osc.header.binding = some (b, x.version))

/-- A claim within the clamps of R18. -/
def ClaimOk (c : Claim) : Prop := c.demand ≤ 6000 ∧ 1 ≤ c.weight ∧ c.weight ≤ 15

/-- An entry within the ranges of R22, its status following its age (R27). -/
def EntryOk (im : Image) (e : Entry) : Prop :=
  1 ≤ e.id ∧ e.id ≤ 31 ∧ e.id ≠ im.stationId ∧ e.age < im.lapseCount ∧ (e.fresh = true ↔ e.age < im.staleCount) ∧
    e.freshRun ≤ 15 ∧ (e.fresh = true ↔ 1 ≤ e.freshRun) ∧ e.missed ≤ 255 ∧ ClaimOk e.claimA ∧ ClaimOk e.claimB

/-- R22 and R30 to R32, with L_eff the smallest of L and the FRESH entries' limits, and R39 first row; outside RUNNING the roster is
empty (R44). -/
def RosterSafe (s : State) : Prop :=
  match s.configured with
  | .running im =>
    itemsInRange im = true ∧ relationsHold im = true ∧
      s.prs.roster.Pairwise (fun e f => e.id < f.id) ∧ (∀ e ∈ s.prs.roster, EntryOk im e) ∧
      s.prs.nEff = max im.nSite (1 + s.prs.roster.length) ∧
      s.prs.unseen = s.prs.nEff - 1 - s.prs.roster.length ∧
      s.prs.lEff ≤ im.limit ∧ (∀ e ∈ s.prs.roster, e.fresh = true → s.prs.lEff ≤ e.limit) ∧
      (s.prs.lEff = im.limit ∨ ∃ e ∈ s.prs.roster, e.fresh = true ∧ s.prs.lEff = e.limit) ∧
      (s.prs.nEff = 1 → s.prs.mode = .joined)
  | .loading _ => s.prs.roster = [] ∧ s.prs.lEff = 0 ∧ s.prs.mode = .isolated
  | .unconfigured => s.prs.roster = [] ∧ s.prs.lEff = 0 ∧ s.prs.mode = .isolated

/-- R7, R11 and R13: a BARRED transmitter owes no frame, an own frame is on the line only while the transmitter is ON, the
tick-owed mark stands only beside it, the rest timer runs exactly while RESTING, and the counts keep their ranges (R19). -/
def LineSafe (s : State) : Prop :=
  (s.slc.tx = .barred → s.slc.slot = .empty) ∧ (sending s = true → s.slc.tx = .on) ∧
    (s.slc.tickOwed = true → sending s = true) ∧ (s.slc.restTimer.isSome = true ↔ s.slc.tx = .resting) ∧
    (s.slc.tx = .on → s.slc.bitErrorRun < 16) ∧ s.slc.bitErrorRun ≤ 16 ∧
    s.slc.checkErrors ≤ 65535 ∧ s.slc.abortedSeen ≤ 65535 ∧ s.slc.arbitrationLosses ≤ 65535 ∧
    s.slc.unacknowledged ≤ 65535 ∧ s.slc.bitErrors ≤ 65535 ∧
    ((∀ im, s.configured ≠ .running im) → s.slc.tx = .on ∧ s.slc.slot = .empty)

/-- An outlet with what a computation and its hand-overs may write taken from `v` (R45, R72): the share result, the session state,
the grant values but for the in-effect grant and the session figures, and the over-draw count a decrease holds at 0 (R133). -/
def shareOnly (u v : OutletState) : OutletState :=
  { u with
    share := v.share
    osc := { u.osc with state := v.osc.state }
    grl :=
      { v.grl with
        inEffect := u.grl.inEffect, peak := u.grl.peak, parkedMs := u.grl.parkedMs, earlierRise := u.grl.earlierRise }
    mtf := { u.mtf with overDraw := v.mtf.overDraw } }

/-- The state with what a computation and its hand-overs may write taken from `t`: `t = sharesOnly s t` says that `t` differs from
`s` in nothing else (R46, R47, R70, R72, R118). -/
def sharesOnly (s t : State) : State :=
  { s with
    shc := t.shc
    slc := { s.slc with slot := t.slc.slot }
    hpt := { s.hpt with flags := t.hpt.flags }
    grl := { s.grl with riseHold := t.grl.riseHold, riseWaiting := t.grl.riseWaiting }
    outA := shareOnly s.outA t.outA
    outB := shareOnly s.outB t.outB }

/-- A computation moves a session between DISPENSING and PARKED alone (R72, R80, R82). -/
def ParksOnly (x y : Session) : Prop := x = y ∨ (x = .dispensing ∧ y = .parked) ∨ (x = .parked ∧ y = .dispensing)

/-- Every event flag that was set is still set (R197). -/
def FlagsKept (s t : State) : Prop := s.hpt.flags &&& t.hpt.flags = s.hpt.flags

/-- What a computation may do to the state (R46 to R48, R72): the fields of `sharesOnly`, parkings and resumptions. -/
def Shared (s t : State) : Prop :=
  t = sharesOnly s t ∧ ParksOnly s.outA.osc.state t.outA.osc.state ∧ ParksOnly s.outB.osc.state t.outB.osc.state ∧
    FlagsKept s t

/-- An outlet with what an event at the OTHER outlet may change taken from `v`: what a computation writes (`shareOnly`), and a rise
that the event releases (R78, R86). -/
def otherOnly (u v : OutletState) : OutletState :=
  { u with
    share := v.share
    osc := { u.osc with state := v.osc.state }
    grl := { v.grl with parkedMs := u.grl.parkedMs, earlierRise := u.grl.earlierRise }
    mtf := { u.mtf with overDraw := v.mtf.overDraw } }

/-- What an event at an outlet leaves alone: everything but that outlet, the share result, the transmit slot, the rise hold and the
raised flags; and the other outlet but for `otherOnly`. -/
def EventAt (o : Outlet) (s t : State) : Prop :=
  t = { s with
        shc := t.shc
        slc := { s.slc with slot := t.slc.slot }
        hpt := { s.hpt with flags := t.hpt.flags }
        grl := { s.grl with riseHold := t.grl.riseHold, riseWaiting := t.grl.riseWaiting }
        outA := t.outA
        outB := t.outB } ∧
    t.out (otherOutlet o) = otherOnly (s.out (otherOutlet o)) (t.out (otherOutlet o)) ∧
    ParksOnly (s.out (otherOutlet o)).osc.state (t.out (otherOutlet o)).osc.state ∧ FlagsKept s t

/-- The part takes host commands (R184): RUNNING on an image, with no RESTART executing. -/
def Serves (im : Image) (s : State) : Prop := s.configured = .running im ∧ s.slc.leaveWait = false

/-- R88: iso is that of the latest computation, and outside JOINED the setpoints together do not exceed it. -/
def CapKept (s : State) : Prop :=
  match s.configured with
  | .running im =>
    s.shc.iso = (s.prs.lEff - im.guard) / s.prs.nEff ∧
      (s.prs.mode ≠ .joined → s.outA.grl.commanded + s.outB.grl.commanded ≤ s.shc.iso)
  | .loading _ => True
  | .unconfigured => True

/-- The filters of an outlet start at their inactive levels (R95, R122), with the pins as they are. -/
def filtersAtStart (u v : OutletState) : Prop :=
  v.hold = ⟨u.hold.pin, true, 0⟩ ∧ v.settled = ⟨u.settled.pin, false, 0⟩ ∧ v.fault = ⟨u.fault.pin, false, 0⟩ ∧
    v.feedback = ⟨u.feedback.pin, false, 0⟩ ∧ v.mtf.pulse = ⟨u.mtf.pulse.pin, false, 0⟩

/-- An outlet at its reset values (R48, R92, R119, R137, R157, R179), with its stray count given and its pins as they were. -/
def OutletReset (stray : Nat) (u v : OutletState) : Prop :=
  filtersAtStart u v ∧ v.share = .reset ∧ v.grl = .reset ∧ v.osc = .reset ∧
    v.mtf = { Mtf.reset with pulse := ⟨u.mtf.pulse.pin, false, 0⟩, stray := stray } ∧ v.tru = .reset ∧ v.acc = .cleared ∧
    v.heldRecord = none

/-- The reinitialisation after RESTART (R210): LOADING with a read begun, every flag clear, and every block at its reset values but
for what R210 keeps, with `drive` what the part has driven last (nothing, or the pattern of an abort: R12); the time, the reset line and
whether the line was found idle (R1; log 6) stay as they were. -/
def Reinitialised (drive : List Bool) (s t : State) : Prop :=
  t.pending = s.pending ∧ t.draws = s.draws ∧ t.now = s.now ∧ t.phase = s.phase ∧ t.clockTickDue = s.clockTickDue ∧
    t.resetLow = s.resetLow ∧ t.configured = .loading (some ⟨none, 0, false⟩) ∧ t.eStop = ⟨s.eStop.pin, false, 0⟩ ∧
    t.slc = { Slc.reset with lineIdle := s.slc.lineIdle, drive := drive } ∧ t.prs = .reset ∧ t.shc = .reset ∧ t.grl = .reset ∧
    t.tru = s.tru ∧ t.stu = { s.stu with settleWait := [] } ∧
    t.hpt = { s.hpt with flags := 0, captured := none } ∧
    OutletReset s.outA.mtf.stray s.outA t.outA ∧ OutletReset s.outB.mtf.stray s.outB t.outB

/-- An outlet at the entry to RUNNING: its filters start (R95, R122), it has no share (R48), and a fitted one is sent a setpoint word of
0 (R92); the stray count of one not fitted is 0 (R210). -/
def outletStarted (isFitted : Bool) (u : OutletState) : OutletState :=
  { u with
    hold := ⟨u.hold.pin, true, 0⟩, settled := ⟨u.settled.pin, false, 0⟩, fault := ⟨u.fault.pin, false, 0⟩
    feedback := ⟨u.feedback.pin, false, 0⟩
    mtf := { u.mtf with pulse := ⟨u.mtf.pulse.pin, false, 0⟩, stray := if isFitted then u.mtf.stray else 0 }
    grl := if isFitted then { u.grl with word := some (setptWord 0), wordAgain := false, wordLeft := 3 } else u.grl
    share := ⟨0, 0, 0, none⟩ }

/-- The state right after the entry to RUNNING on an image (R208 with R7, R8, R44, R48, R92, R95, R122), from a state `s` that grants
nothing. -/
def runningOn (im : Image) (s : State) : State :=
  { s with
    configured := .running im
    hpt.flags := s.hpt.flags ||| 1
    slc := { s.slc with slot := .due .announce, shareTick := some (s.now + im.sharePeriod) }
    prs := ⟨[], im.nSite, im.nSite - 1, im.limit, [], im.isolationCount, im.isolationCount, 0, false,
      if im.nSite = 1 then .joined else .isolated⟩
    shc := ⟨(im.limit - im.guard) / im.nSite,
      if im.nSite = 1 then im.limit - im.guard else (im.limit - im.guard) / im.nSite, false⟩
    eStop := ⟨s.eStop.pin, false, 0⟩
    grl := { s.grl with riseHold := none, riseWaiting := false }
    outA := outletStarted true s.outA
    outB := outletStarted (im.outlets == 2) s.outB }

/-- R45 and R46: the result the SHC holds is the one its inputs give as they stand. -/
def ShareCurrent (s : State) : Prop :=
  ∀ im, s.configured = .running im →
    s.shc = ⟨isolatedShare im s, availablePower im s, siteBusy im s⟩ ∧ s.outA.share = shareResult im s .a ∧
      s.outB.share = shareResult im s .b

/-- R72: each fitted outlet's target is the one handed over, and in DISPENSING it is at least the floor, the setpoint is at most the
target, and a setpoint below it has the target as its pending rise. -/
def HandedOver (s : State) : Prop :=
  ∀ im o, s.configured = .running im → fitted im o = true →
    (s.out o).grl.target = (s.out o).share.target ∧
      ((s.out o).osc.state = .dispensing →
        (s.out o).osc.header.floor ≤ (s.out o).grl.target ∧ (s.out o).grl.commanded ≤ (s.out o).grl.target ∧
          (s.out o).grl.pending =
            if (s.out o).grl.commanded < (s.out o).grl.target then some (s.out o).grl.target else none)

/-- R158 to R163: one segment for a key, energies that add up to the session energy, amounts within their ranges, no fee without energy,
and, until something has saturated, a running total that is the sum of its parts. -/
def AccountsExact (a : Accounts) : Prop :=
  (a.segments.map Segment.key).Nodup ∧ (∀ g ∈ a.segments, ∀ i, g.key = .window i → i < 8) ∧
    (∀ g ∈ a.segments, 1 ≤ g.energy ∧ g.amount ≤ 1099511627775) ∧ (a.segments.map Segment.energy).sum = a.energy ∧
    a.energy ≤ 4294967295 ∧ a.total ≤ 1099511627775 ∧ a.occupancyAmount ≤ 1099511627775 ∧
    (a.energy = 0 → a.feeApplied = 0) ∧
    (a.saturated = false → a.total = (a.segments.map Segment.amount).sum + a.feeApplied * 10000 + a.occupancyAmount)

/-- The accounts of both outlets, with the image in force valid. -/
def AccountsSafe (s : State) : Prop := ImageOk s ∧ AccountsExact s.outA.acc ∧ AccountsExact s.outB.acc

/-- A trip of an outlet (R86, R87, R107, R108), from `s` to `t`: TRIPPED with its cause, the drive open, no timer, a setpoint of 0 with
its word, no grant that an open contactor does not hold, and no share. -/
def Tripped (o : Outlet) (cause : TripCause) (s t : State) : Prop :=
  EventAt o s t ∧ t.flagSet (tripFlag o) = true ∧ t.flagSet (changeFlag o) = true ∧
    t.out o =
      { s.out o with
        osc :=
          { (s.out o).osc with
            state := .tripped, tripCause := some cause, driveClosed := false, closePhase := none
            forcedOpen := (s.out o).osc.forcedOpen || (s.out o).osc.state == .closing
            startTimer := none, mismatchTimer := none, closeTimer := none }
        grl :=
          sendWord
            { (s.out o).grl with
              target := 0, commanded := 0, pending := none, unconfirmed := false, confirmTimer := none, parkHold := .stopped
              inEffect := if (s.out o).feedback.level then (s.out o).grl.inEffect else 0 }
        share := ⟨0, 0, 0, none⟩ }

/-- The completion of a close (R116, R117, R135, R138, R146, R174, R175), from `s` to `t`, with the record `r` built from `s`: IDLE with the
record in the queue, or SETTLE_WAIT with the record held while the queue is full; and in either no grant, no binding and no record of it in the
header, whose values stay as they were (R93), and no capture. -/
def CloseCompleted (o : Outlet) (r : Record) (s t : State) : Prop :=
  EventAt o
      { s with
        stu :=
          if s.stu.queue.length < 8 then
            ⟨s.stu.queue ++ [{ r with sequence := s.stu.counter }], s.stu.counter + 1, s.stu.settleWait⟩
          else { s.stu with settleWait := s.stu.settleWait ++ [o] }
        grl.order := s.grl.order.filter fun x => x != o } t ∧
    t.flagSet (changeFlag o) = true ∧ (s.stu.queue = [] → t.flagSet .recordReady = true) ∧
    (s.stu.queue.length = 7 → t.flagSet .queueFull = true) ∧
    t.out o =
      { s.out o with
        osc :=
          { (s.out o).osc with
            state := if s.stu.queue.length < 8 then .idle else .settleWait, closePhase := none, closeTimer := none
            header := { (s.out o).osc.header with binding := none } }
        acc.capped := r.capped
        mtf := { (s.out o).mtf with capture := .off, overDraw := 0 }
        tru.binding := none
        heldRecord := if s.stu.queue.length < 8 then (s.out o).heldRecord else some r
        grl :=
          { (s.out o).grl with
            target := 0, commanded := 0, inEffect := 0, pending := none, unconfirmed := false, confirmTimer := none
            parkHold := .stopped }
        share := ⟨0, 0, 0, none⟩ }

/-- The grant values of an outlet that leaves DISPENSING or PARKED for DWELL, EXHAUSTED or CLOSING (R81, R84): a setpoint above 0 goes to 0
by the decrease path, and nothing is pending. -/
def withdrawnGrants (im : Image) (now : Nat) (g : Grl) : Grl :=
  { (if 0 < g.commanded then
      sendWord { g with commanded := 0, unconfirmed := true, confirmTimer := some (now + im.confirmTimeout) }
    else g) with
    target := 0, pending := none, parkHold := .stopped }

/-- R169 and R170: a record settles within its hold, and what it does not settle is uncollected. -/
def RecordSettled (r : Record) : Prop := r.settled ≤ r.hold ∧ r.settled + r.uncollected = r.total

/-- R170: every record, queued or held, settles within its hold. -/
def RecordsSettled (s : State) : Prop :=
  (∀ r ∈ s.stu.queue, RecordSettled r) ∧ ∀ o r, (s.out o).heldRecord = some r → RecordSettled r

end Sys2Proof.Machine
end

