-- ==== Sys2Proof/WellFormed.lean ====
section
/-! DEFINITION. When a command's operands can occur: the kind bit of a received frame is the one that makes it that frame
(R3, R14), and the UNKNOWN_COMMAND row carries at least one byte (R180) and no command's message (R185). Everything else a
sender may give is decided by the meanings. -/

namespace Sys2Proof

/-- The kind bit of a frame: bit 7 of its first byte (R3, Tables 20 and 21). -/
def frameKindBit (frame : List Byte) : Bool := (frame.getD 0 0).getLsbD 7

/-- The operands can occur. -/
def Instr.wellFormed : Instr → Bool
  | .announceReceived frame _ => frameKindBit frame.toList
  | .leaveReceived frame _ => !frameKindBit frame.toList
  | .unknownCommand bytes => !bytes.isEmpty && decide (commandOf bytes = .unknownCommand bytes)
  | _ => true

end Sys2Proof
end

