-- ==== Sys2Proof/Certificates/Slice0/Obligations.lean ====
section
/-! DEFINITION. The statements for the provers. A frame is an equation: `t = { s with f := t.f }` says that `t` differs from `s` in `f`
alone; `Shared u t` and `EventAt o u t` add to `u` what a computation, or an event at outlet `o`, may change. `finishCaptured c s` is `s`
with a transaction that carried `c` no longer executing (assumption log 9). -/

open Sys2Proof Sys2Proof.Machine

-- The machine and its invariants.

/-- The command at the front of the queue is executed on the state with the queue's rest (assumption log 1). -/
def Obligations.StepRunsTheCommandInFront : Prop :=
  ∀ (c : Instr) (s : State), step { s with pending := c :: s.pending } = exec c s

/-- With no command waiting: 0.1 ms passes when nothing is due, the one event due is taken, and of several some one is taken
with a free value drawn ("Either may be taken first"): the model's choice, assumption logs 1 and 2. What is due in RUNNING, with no
command executing: the expiry of a timer whose time has come, a recognition at the depth-th sample (R94, R121), the end of a setpoint
word (R71), a no-flow (R129), a dwell minute (R166), an attempt (R9) and a mark (R8). What 0.1 ms does: the meter filter samples and
the capture counter counts (R121, R127); at every tenth, a tick of 1 ms, the input filters sample (R94), and the session time (R93), the
parked time (R90) and the dwell clock (R166) count, the last two to a free value past their ranges (log 3). -/
def Obligations.IdleStepTakesAnEventOrTime : Prop :=
  (∀ s : State, s.pending = [] →
    (dueEvents s = [] → step s = .next (advance s)) ∧
    (∀ c, dueEvents s = [c] → step s = exec c s) ∧
    (2 ≤ (dueEvents s).length → ∃ c, c ∈ dueEvents s ∧ step s = exec c { s with draws := s.draws + 1 })) ∧
  (∀ (im : Image) (s : State), s.configured = .running im → s.hpt.captured = none →
    let due := fun c : Instr => c ∈ dueEvents s
    let ran := fun x : Timer => ∃ time, x = some time ∧ time ≤ s.now
    let changes := fun (depth : Nat) (f : Filter) (level : Bool) => depth ≤ f.run ∧ f.level = !level
    (due .tariffClockAdvance ↔ s.clockTickDue = true) ∧ (due .sharePeriodTick ↔ ran s.slc.shareTick) ∧
      (due .quarterPeriodMark ↔ ∃ mark, s.slc.slot = .deferred mark ∧ mark ≤ s.now) ∧
      (due .attemptStart ↔ (∃ kind, s.slc.slot = .due kind) ∧ s.slc.tx = .on ∧ s.slc.lineIdle = true) ∧
      (due .restTimerExpiry ↔ ran s.slc.restTimer ∧ s.slc.tx = .resting) ∧
      (due .leaveTimerExpiry ↔ ran s.slc.leaveTimer ∧ s.slc.leaveWait = true) ∧ (due .riseHoldExpiry ↔ ran s.grl.riseHold) ∧
      (due .eStopAsserted ↔ changes im.filterDepth s.eStop true) ∧ (due .eStopReleased ↔ changes im.filterDepth s.eStop false) ∧
      ∀ o, fitted im o = true →
        let u := s.out o
        (due (.setpointWordEnd o) ↔ u.grl.word ≠ none ∧ u.grl.wordLeft = 0) ∧ (due (.confirmTimeout o) ↔ ran u.grl.confirmTimer) ∧
          (due (.parkHoldExpiry o) ↔ ∃ time, u.grl.parkHold = .running time ∧ time ≤ s.now) ∧
          (∀ released, due (.holdChange o released) ↔ changes im.filterDepth u.hold !released) ∧
          (due (.confirmation o) ↔ changes im.filterDepth u.settled true) ∧
          (due (.settledRecognisedLow o) ↔ changes im.filterDepth u.settled false) ∧
          (due (.faultAsserted o) ↔ changes im.filterDepth u.fault true) ∧
          (due (.faultReleased o) ↔ changes im.filterDepth u.fault false) ∧
          (due (.feedbackClosed o) ↔ changes im.filterDepth u.feedback true) ∧
          (due (.feedbackOpen o) ↔ changes im.filterDepth u.feedback false) ∧
          (due (.mismatchTimerExpiry o) ↔ ran u.osc.mismatchTimer) ∧ (due (.startTimerExpiry o) ↔ ran u.osc.startTimer) ∧
          (due (.closeTimerExpiry o) ↔ ran u.osc.closeTimer ∧ u.osc.state = .closing ∧ u.osc.closePhase = some .openWait) ∧
          (due (.meterPulse o) ↔ changes im.meterDepth u.mtf.pulse true) ∧
          (due (.pulseRecognisedInactive o) ↔ changes im.meterDepth u.mtf.pulse false) ∧
          (due (.noFlow o) ↔ u.mtf.capture = .timing ∧ 65535 ≤ u.mtf.counter ∧ ¬changes im.meterDepth u.mtf.pulse true) ∧
          (due (.dwellMinute o) ↔
            u.osc.state = .dwell ∧ u.acc.stopped = false ∧ 60000 * (u.acc.dwellMinutes + 1) ≤ u.acc.dwellClock)) ∧
  ∀ s : State,
    let t := advance s
    let tick := 9 ≤ s.phase
    let sampled := fun (depth : Nat) (f : Filter) =>
      if depth ≤ f.run then f else if f.pin = f.level then { f with run := 0 } else { f with run := f.run + 1 }
    t = { s with
          now := if tick then s.now + 1 else s.now, phase := if tick then 0 else s.phase + 1
          clockTickDue := if tick then s.tru.clock.set else s.clockTickDue
          draws := t.draws, configured := t.configured, eStop := t.eStop, outA := t.outA, outB := t.outB } ∧
      (∀ read, s.configured = .loading (some read) →
        t.configured = .loading (some { read with elapsed := if tick then read.elapsed + 1 else read.elapsed })) ∧
      ((∀ read, s.configured ≠ .loading (some read)) → t.configured = s.configured) ∧
      ((∀ im, s.configured ≠ .running im) → t.eStop = s.eStop ∧ t.outA = s.outA ∧ t.outB = s.outB ∧ t.draws = s.draws) ∧
      ∀ im, s.configured = .running im →
        let atTick := fun f : Filter => if tick then sampled im.filterDepth f else f
        t.eStop = atTick s.eStop ∧
          ((∀ o, (s.out o).grl.parkedMs < 4294967295 ∧ (s.out o).acc.dwellClock < 4294967295) → t.draws = s.draws) ∧
          ∀ o,
            let u := s.out o
            let v := t.out o
            let parks := tick ∧ u.osc.state = .parked
            let waits := tick ∧ u.osc.state = .dwell ∧ u.acc.stopped = false
            (fitted im o = false → v = u) ∧
              (fitted im o = true →
                v = { u with
                      hold := atTick u.hold, settled := atTick u.settled, fault := atTick u.fault, feedback := atTick u.feedback
                      mtf := { u.mtf with
                        pulse := sampled im.meterDepth u.mtf.pulse
                        counter := if u.mtf.capture = .timing then min 65535 (u.mtf.counter + 1) else u.mtf.counter }
                      osc := { u.osc with
                        sessionTime :=
                          if tick ∧ u.osc.state ≠ .idle ∧ u.osc.state ≠ .settleWait then min 4294967295 (u.osc.sessionTime + 1)
                          else u.osc.sessionTime }
                      grl := { u.grl with
                        wordLeft := u.grl.wordLeft - 1, parkedMs := v.grl.parkedMs
                        earlierRise := u.grl.earlierRise && (!decide tick || decide (0 < (sampled im.filterDepth u.settled).run)) }
                      acc := { u.acc with dwellClock := v.acc.dwellClock } } ∧
                  (¬parks → v.grl.parkedMs = u.grl.parkedMs) ∧ (¬waits → v.acc.dwellClock = u.acc.dwellClock) ∧
                  (parks → u.grl.parkedMs < 4294967295 → v.grl.parkedMs = u.grl.parkedMs + 1) ∧
                  (waits → u.acc.dwellClock < 4294967295 → v.acc.dwellClock = u.acc.dwellClock + 1) ∧
                  (parks → v.grl.parkedMs ≤ 4294967295) ∧ (waits → v.acc.dwellClock ≤ 4294967295))

/-- No command stops the machine, and none touches the queue of waiting commands (assumption log 1). -/
def Obligations.EveryCommandAnswersNextAndKeepsTheQueue : Prop :=
  ∀ (c : Instr) (s : State), ∃ t, exec c s = .next t ∧ t.pending = s.pending

/-- The values the spec gives for power-on (R21, R44, R48, R92, R119, R137, R157, R179, R201, R203). -/
def Obligations.ResetValues : Prop :=
  let s := State.reset
  s.configured = .loading none ∧ s.hpt.flags = 0 ∧ s.hpt.enable = 0x7FFF ∧ s.hpt.held = ⟨.ok, 1, []⟩ ∧ s.attn = false ∧
    s.slc.tx = .on ∧ s.slc.slot = .empty ∧ s.slc.restTimer = none ∧ s.slc.leaveTimer = none ∧ s.slc.tickOwed = false ∧
    s.slc.bitErrorRun = 0 ∧ s.slc.sequence = 0 ∧ s.slc.reference = none ∧ s.slc.lastDone = none ∧
    (s.slc.checkErrors, s.slc.abortedSeen, s.slc.arbitrationLosses, s.slc.unacknowledged, s.slc.bitErrors) = (0, 0, 0, 0, 0) ∧
    s.prs.roster = [] ∧ s.prs.lEff = 0 ∧ s.prs.mode = .isolated ∧ s.prs.mismatches = [] ∧ s.shc = ⟨0, 0, false⟩ ∧
    s.grl = ⟨none, false, []⟩ ∧ s.tru = ⟨none, none, .a, ⟨false, 0, 0, 0⟩⟩ ∧ s.stu = ⟨[], 0, []⟩ ∧
    ∀ o,
      let u := s.out o
      u.share = ⟨0, 0, 0, none⟩ ∧ u.grl.target = 0 ∧ u.grl.commanded = 0 ∧ u.grl.inEffect = 0 ∧ u.grl.pending = none ∧
        u.grl.unconfirmed = false ∧ u.grl.confirmTimer = none ∧ u.grl.parkHold = .stopped ∧ u.grl.peak = 0 ∧
        u.grl.parkedMs = 0 ∧ u.grl.word = none ∧ u.osc.state = .idle ∧ u.osc.driveClosed = false ∧
        u.osc.header.bound = none ∧ u.osc.header.binding = none ∧ u.osc.header.startClock = none ∧ u.osc.sessionTime = 0 ∧ u.osc.closeOrigin = .other ∧
        u.osc.closePhase = none ∧ u.osc.tripCause = none ∧ u.osc.exhaustedFlag = false ∧ u.osc.forcedOpen = false ∧
        (u.osc.startTimer, u.osc.mismatchTimer, u.osc.closeTimer) = (none, none, none) ∧ u.mtf.capture = .off ∧
        u.mtf.counter = 0 ∧ u.mtf.lastInterval = none ∧ u.mtf.lastEstimate = none ∧ u.mtf.smoothed = 0 ∧
        u.mtf.reseed = false ∧ u.mtf.overDraw = 0 ∧ u.mtf.stray = 0 ∧ u.tru = ⟨none, .none, none, none, false, false, false⟩ ∧
        u.acc = ⟨[], 0, 0, 0, 0, 0, 0, 0, false, false, false, false⟩ ∧ u.heldRecord = none

/-- The reset state meets every invariant stated below. -/
def Obligations.ResetMeetsTheInvariants : Prop :=
  QueueNumbered State.reset ∧ RecordsSettled State.reset ∧ GrantsSafe State.reset ∧ SessionsSafe State.reset ∧
    BoundBankKept State.reset ∧ RosterSafe State.reset ∧ LineSafe State.reset ∧ CapKept State.reset ∧
    ShareCurrent State.reset ∧ HandedOver State.reset ∧ AccountsSafe State.reset

/-- R173 and R170: every step keeps the queue at no more than 8 records, numbered consecutively up to the counter, and every
record, queued or held, settled within its hold. -/
def Obligations.QueueAndRecordsStaySound : Prop :=
  (∀ s t : State, QueueNumbered s → step s = .next t → QueueNumbered t) ∧
  (∀ s t : State, RecordsSettled s → step s = .next t → RecordsSettled t)

/-- R69 and R84: every step keeps the setpoints within the ratings and the in-effect grants, and 0 outside DISPENSING. -/
def Obligations.GrantsStaySafe : Prop :=
  ∀ s t : State, GrantsSafe s → step s = .next t → GrantsSafe t

/-- R96 to R98 and R117: every step keeps each contactor drive as its session state says, and the settle-wait order as the
states say. -/
def Obligations.DrivesFollowTheStates : Prop :=
  ∀ s t : State, SessionsSafe s → step s = .next t → SessionsSafe t

/-- R138: at every step the record of the bound bank in an outlet's header and its binding are set and cleared together (that the header's
value as it is read outlasts that record is the model's reading, assumption log 20). R141 and R145: every step keeps a
session's bound bank LOADED with the version in its header, and a step that leaves an outlet in
session changes neither its binding nor anything of the bank it is bound to. -/
def Obligations.BoundBankStays : Prop :=
  (∀ s t : State, BoundBankKept s → step s = .next t → BoundBankKept t) ∧
  ∀ (s t : State) (o : Outlet) (b : Bank), step s = .next t → inSession (s.out o).osc.state = true →
    (s.out o).tru.binding = some b → inSession (t.out o).osc.state = true →
    (t.out o).tru.binding = some b ∧ t.tru.bank b = s.tru.bank b

/-- R22, R27 and R30 to R32: every step keeps the roster's entries in range and the effective values those of the roster: N_eff, U, and
L_eff the smallest of L and the FRESH entries' limits. -/
def Obligations.RosterStaysSafe : Prop :=
  ∀ s t : State, RosterSafe s → step s = .next t → RosterSafe t

/-- R7, R11, R13 and R19: every step keeps the transmit slot, the transmitter and the line counters in order. -/
def Obligations.LineStaysSafe : Prop :=
  ∀ s t : State, LineSafe s → step s = .next t → LineSafe t

/-- R61 and R88: in every state that keeps the grant relations, a step keeps the setpoints of an ISOLATED or HALF_HEARD
station within iso. -/
def Obligations.IsolationCapStays : Prop :=
  ∀ s t : State, GrantsSafe s → CapKept s → step s = .next t → CapKept t

/-- R46 and R72: after every step the share result is the one its inputs give as they stand, and each outlet's grant values
are those that the hand-over of its target leaves. -/
def Obligations.ShareFollowsItsInputs : Prop :=
  ∀ s t : State, ShareCurrent s → HandedOver s → step s = .next t → ShareCurrent t ∧ HandedOver t

/-- R158 to R163: every step keeps the accounts of both outlets adding up. -/
def Obligations.AccountsStayExact : Prop :=
  ∀ s t : State, AccountsSafe s → step s = .next t → AccountsSafe t

-- Start-up.

/-- R203: the reset line and power-on bring every block to its power-on values in LOADING, and a read starts at power-on
(with the line not LOW) and at the line's rising edge. A transaction answered PENDING stays open to its rising edge, its command not
taken. A transaction under way that no PENDING row announced is not taken either: the reset line marks it, and where no row shows whether
there is one, the mark is a free value (log 9). The model's choices: what the pins and chip select show, the queue and the free values
drawn are not the part's (logs 1, 3, 5, 9); the values of `State.reset` that no rule gives (logs 6 to 9); and a rising edge in any state but LOADING with no read, which no line held
LOW can give, changes the line alone (log 12). -/
def Obligations.PowerOnAndTheResetLine : Prop :=
  ∀ s : State,
    let transaction := fun underWay : Bool =>
      Hpt.mk 0 0x7FFF ⟨.ok, 1, []⟩ none s.hpt.pendingOpen underWay s.hpt.miso s.hpt.misoReleased
    (∃ t, exec .resetLineAsserted s = .next t ∧ t.resetLow = true ∧ t.configured = .loading none ∧
      t = { State.reset with
            pending := s.pending, draws := s.draws + 1, resetLow := t.resetLow, eStop := t.eStop, outA := t.outA, outB := t.outB
            hpt := transaction t.hpt.underWay } ∧
      (s.hpt.pendingOpen = true → t.hpt.underWay = false) ∧
      (s.hpt.pendingOpen = false → s.hpt.underWay = true → t.hpt.underWay = true) ∧
      t.eStop = ⟨s.eStop.pin, false, 0⟩ ∧ OutletReset 0 s.outA t.outA ∧ OutletReset 0 s.outB t.outB) ∧
    (∃ t, exec .powerOn s = .next t ∧
      t.configured = .loading (if s.resetLow then none else some ⟨none, 0, false⟩) ∧
      t = { State.reset with
            pending := s.pending, draws := s.draws, resetLow := s.resetLow, configured := t.configured, eStop := t.eStop
            outA := t.outA, outB := t.outB, hpt := transaction s.hpt.underWay } ∧
      t.eStop = ⟨s.eStop.pin, false, 0⟩ ∧ OutletReset 0 s.outA t.outA ∧ OutletReset 0 s.outB t.outB) ∧
    (s.configured = .loading none →
      exec .resetLineReleased s = .next { s with resetLow := false, configured := .loading (some ⟨none, 0, false⟩) }) ∧
    (s.configured ≠ .loading none → exec .resetLineReleased s = .next { s with resetLow := false })

/-- R204 and R208: the end of the first pass begins the second, with a limit of its own; a pass that has lasted 100 ms is due to time
out, which makes the read fail, and a failed read is due to end. A read that failed, was not acknowledged, gave two different passes, or
gave an image that is not valid leaves the part UNCONFIGURED with CONFIG FAULT raised, and changes nothing else. The end of the first
pass as an event of its own is the model's (assumption log 14). -/
def Obligations.FailedReadLeavesUnconfigured : Prop :=
  ∀ (s : State) (read : ConfigRead), s.configured = .loading (some read) →
    exec .passTimeout s = .next { s with configured := .loading (some { read with failed := true }) } ∧
    (read.failed = false → (.passTimeout ∈ dueEvents s ↔ 100 ≤ read.elapsed)) ∧
    (read.failed = true → .configurationReadEnd .noAcknowledge ∈ dueEvents s) ∧
    (∀ bytes, read.failed = false → read.firstPass = none →
      exec (.configurationReadEnd (.pass bytes)) s = .next { s with configured := .loading (some ⟨some bytes, 0, false⟩) }) ∧
    ∀ result : ReadResult,
      (read.failed = true ∨ result = .noAcknowledge ∨
        ∃ first second, read.firstPass = some first ∧ result = .pass second ∧
          (first ≠ second ∨ validImage first.toList = none)) →
      exec (.configurationReadEnd result) s =
        .next { s with configured := .unconfigured, hpt.flags := s.hpt.flags ||| 2 }

/-- R205 to R207 with Table 27: 64 bytes are a valid image exactly when their check word is 65535 less the sum of the others, every
item lies in its range and the relations hold. R208 and R209: a read whose second pass gives the bytes of its first and a valid image,
and a CONFIGURE that carries one to an UNCONFIGURED part, enter RUNNING; the read answers nothing, the command OK. CONFIGURE is refused
in RUNNING, and in UNCONFIGURED when its image is not valid. The model's choices: the three units of 0.1 ms of the first setpoint word
(assumption log 10), and the first pass that the read holds, whose end no row of its own tells (log 14). -/
def Obligations.ValidImageEntersRunning : Prop :=
  (∀ (s : State) (image : Vector Byte 64) (im : Image), validImage image.toList = some im →
      AtRest s.outA → AtRest s.outB →
      (∀ n, s.configured = .loading (some ⟨some image, n, false⟩) →
        exec (.configurationReadEnd (.pass image)) s = .next (runningOn im s)) ∧
      (s.configured = .unconfigured →
        exec (.configure image) s =
          .next { runningOn im (finishCaptured (.configure image) s) with hpt.held := ⟨.ok, 4, []⟩ })) ∧
  (∀ (s : State) (image : Vector Byte 64),
      (∀ im, Serves im s →
        exec (.configure image) s =
          .next { finishCaptured (.configure image) s with hpt.held := ⟨.wrongState, 4, []⟩ }) ∧
      (s.configured = .unconfigured → validImage image.toList = none →
        exec (.configure image) s = .next { finishCaptured (.configure image) s with hpt.held := ⟨.badValue, 4, []⟩ })) ∧
  ∀ (image : Vector Byte 64) (im : Image),
    let b := fun i => u8At image.toList i
    let w := fun i => u16At image.toList i
    let within := fun lo hi n : Nat => lo ≤ n ∧ n ≤ hi
    validImage image.toList = some im ↔
      im = ⟨b 0, b 1, w 2, w 4, w 6, b 8, w 9, w 11, b 13, b 14, b 15, b 16, w 17, b 19, b 20, b 21, w 22, w 24, b 26, w 27, b 29,
          w 30, b 32, b 33, b 34, b 35, w 36, b 38, b 39, w 40, image[42]⟩ ∧
        w 62 = 65535 - ((image.toList.take 62).map BitVec.toNat).sum % 65536 ∧
        within 1 31 im.stationId ∧ within 1 31 im.nSite ∧ within 10 40000 im.limit ∧ im.guard ≤ 4000 ∧ within 10 10000 im.pMax ∧
        within 1 2 im.outlets ∧ within 10 6000 im.pOutA ∧ (im.outlets = 2 → within 10 6000 im.pOutB) ∧
        (∀ x ∈ [im.weight0, im.weight1, im.weight2, im.weight3], within 1 15 x) ∧
        within 100 1000 im.sharePeriod ∧ 50 ∣ im.sharePeriod ∧ within 2 8 im.staleCount ∧ within 3 32 im.isolationCount ∧
        within 4 64 im.lapseCount ∧ within 10 2000 im.riseStep ∧ im.resumeMargin ≤ 500 ∧ within 1 60 im.parkHold ∧
        within 100 2000 im.confirmTimeout ∧ within 1 30 im.startTimeout ∧ within 20 500 im.feedbackTime ∧
        im.filterDepth ∈ [3, 7, 15] ∧ im.meterDepth ∈ [3, 7, 15] ∧ im.pulseWeight ∈ [1, 2, 5, 10] ∧ im.beta ≤ 4 ∧
        im.tolerance ≤ 1000 ∧ within 1 15 im.overDrawLimit ∧ within 50 100 im.busyPercent ∧ im.stopReserve ≤ 500 ∧
        im.weekend.toNat < 128 ∧ im.guard < im.limit ∧ im.staleCount < im.isolationCount ∧ im.isolationCount < im.lapseCount ∧
        im.isolationCount * im.sharePeriod + im.confirmTimeout + im.sharePeriod ≤ im.lapseCount * im.sharePeriod

/-- R20, R196 and R210: RESTART is refused unless both outlets are IDLE; accepted, it answers OK and begins the LEAVE wait of
100 ms with a LEAVE due, or, with the transmitter not ON, the reinitialisation at once. The wait ends in the reinitialisation
at the completion of the LEAVE, at the expiry of the LEAVE timer with no LEAVE on the line, and at the loss or abort of a
LEAVE that the expiry found on the line, with the pattern of such an abort driven first (R12); LostAndAbortedFramesStayDue and BadAndOwnFramesAreNotDelivered state its end by RESTING and
BARRED. The model's choices in what the reinitialisation leaves: N_eff, U and the mode counts at 0 (log 7), zeros in the cleared header
(log 8), the pins and the finding of idle kept (logs 5, 6). -/
def Obligations.RestartLeavesAndReinitialises : Prop :=
  (∀ (im : Image) (s : State), Serves im s →
      let u := { finishCaptured .restart s with hpt.held := ⟨.ok, 18, []⟩ }
      (s.outA.osc.state ≠ .idle ∨ s.outB.osc.state ≠ .idle →
        exec .restart s = .next { finishCaptured .restart s with hpt.held := ⟨.wrongState, 18, []⟩ }) ∧
      (s.outA.osc.state = .idle → s.outB.osc.state = .idle → s.slc.tx = .on →
        exec .restart s =
          .next { u with
            slc.leaveWait := true, slc.leaveTimer := some (s.now + 100), slc.leaveExpired := false
            slc.slot := match s.slc.slot with
              | .sending frame => .sending frame
              | .empty | .deferred _ | .due _ => .due .leave }) ∧
      (s.outA.osc.state = .idle → s.outB.osc.state = .idle → s.slc.tx ≠ .on →
        ∃ t, exec .restart s = .next t ∧ Reinitialised [] u t)) ∧
  (∀ (im : Image) (s : State), s.configured = .running im →
      (∀ n acknowledged, s.slc.slot = .sending (.leave n) →
        ∃ t, exec (.ownFrameCompletion acknowledged) s = .next t ∧ Reinitialised [] s t) ∧
      (s.slc.leaveWait = true → s.slc.leaveTimer.isSome = true → sendingLeave s = false →
        ∃ t, exec .leaveTimerExpiry s = .next t ∧ Reinitialised [] s t) ∧
      (s.slc.leaveWait = true → s.slc.leaveTimer.isSome = true → sendingLeave s = true → s.slc.tx = .on →
        exec .leaveTimerExpiry s = .next { s with slc.leaveTimer := none, slc.leaveExpired := true }) ∧
      (s.slc.leaveWait = true → s.slc.leaveExpired = true → sending s = true →
        (∃ t, exec .arbitrationLoss s = .next t ∧ Reinitialised [] s t) ∧
          ∃ t, exec .bitError s = .next t ∧ Reinitialised (List.replicate 6 false) s t))

-- The host port.

/-- R180 to R183: chip select falling during an execution is answered PENDING, and the part drives MISO; its rise ends such a
transaction, which is not taken; nor is the command of one that was under way at a reset (R203; how that is known, and the free values on
its MISO: assumption log 9); a byteless transaction is not taken, and any other is. At the rise MISO has carried the PENDING answer or
the held response, then all ones, as far as the host clocked, and is released. The command taken is due at once where the part serves
the host, and its execution leaves no command executing; the finish after 50 µs is not counted (assumption log 9). -/
def Obligations.TransactionsAreTakenOrAnsweredPending : Prop :=
  (∀ (s : State) (bytes : List Byte),
      let busy := (∃ read, s.configured = .loading read) ∨ (s.configured = .unconfigured ∧ s.hpt.captured ≠ none) ∨
        ∃ im, s.configured = .running im ∧ (s.slc.leaveWait = true ∨ s.hpt.captured ≠ none)
      let ended := fun (answer : List Byte) (captured : Option (List Byte)) =>
        exec (.chipSelectRise bytes) s =
          .next { s with
            hpt := { s.hpt with
              pendingOpen := false, underWay := false, misoReleased := true, captured := captured
              miso := (answer ++ List.replicate bytes.length 0xFF).take bytes.length } }
      (busy →
        exec .pending s =
          .next { s with
            hpt := { s.hpt with miso := [1, 0, 0, 0], pendingOpen := true, underWay := false, misoReleased := false } }) ∧
      (s.hpt.pendingOpen = false → s.hpt.underWay = true →
        ∃ t, exec (.chipSelectRise bytes) s = .next t ∧ t.hpt.miso.length = bytes.length ∧
          t = { s with
                draws := s.draws + 1
                hpt := { s.hpt with underWay := false, misoReleased := true, miso := t.hpt.miso } }) ∧
      (s.hpt.pendingOpen = true ∨ (s.hpt.underWay = false ∧ busy) → ended [1, 0, 0, 0] s.hpt.captured) ∧
      (s.hpt.pendingOpen = false → s.hpt.underWay = false → ¬busy →
        (bytes = [] → ended (responseBytes s.hpt.held) s.hpt.captured) ∧
          (bytes ≠ [] → ended (responseBytes s.hpt.held) (some bytes)))) ∧
  (∀ (s : State) (bytes : List Byte), s.hpt.captured = some bytes →
      ((∃ im, Serves im s) ∨ s.configured = .unconfigured → commandOf bytes ∈ dueEvents s) ∧
      finishCaptured (commandOf bytes) s = { s with hpt.captured := none } ∧
      ∀ c, c ≠ commandOf bytes → finishCaptured c s = s)

/-- R184, R185 steps 1 to 4, R186 and R196: while LOADING and in the LEAVE wait every host command is answered PENDING and
not taken; an UNCONFIGURED part answers UNCONFIGURED to all but NOP, STATUS, CONFIGURE and EVENTS; a message shorter than
three bytes or of a wrong length is answered BAD LENGTH, and a code that names no command UNKNOWN COMMAND. Nothing else
changes. What a command row does in the first two cases follows assumption log 9. -/
def Obligations.CommandsThatAreNotServed : Prop :=
  (∀ (c : Instr) (code : Nat) (s : State), commandCode c = some code →
      ((∃ read, s.configured = .loading read) ∨ (∃ im, s.configured = .running im ∧ s.slc.leaveWait = true) →
        exec c s = .next { s with hpt.miso := [1, 0, 0, 0] }) ∧
      (s.configured = .unconfigured → code ∉ [1, 2, 4, 16] →
        exec c s = .next { finishCaptured c s with hpt.held := ⟨.unconfigured, BitVec.ofNat 8 code, []⟩ })) ∧
  (∀ (s : State) (bytes : List Byte), bytes ≠ [] → ((∃ im, Serves im s) ∨ s.configured = .unconfigured) →
      let answer := fun status : Status =>
        exec (.unknownCommand bytes) s =
          .next { finishCaptured (.unknownCommand bytes) s with hpt.held := ⟨status, bytes.headD 0, []⟩ }
      let code := (bytes.headD 0).toNat
      (bytes.length < 3 → answer .badLength) ∧
      (3 ≤ bytes.length → code = 0 ∨ 18 < code → answer .unknownCommand) ∧
      (3 ≤ bytes.length → 1 ≤ code → code ≤ 18 → s.configured = .unconfigured → code ∉ [1, 2, 4, 16] → answer .unconfigured) ∧
      ∀ n, 3 ≤ bytes.length → payloadLength code = some n → s.configured ≠ .unconfigured ∨ code ∈ [1, 2, 4, 16] →
        u16At bytes 1 ≠ n ∨ bytes.length < 3 + n → answer .badLength)

/-- R67, R144, R176, R188 to R190, R195: the reading commands answer what stands, and change nothing but the held response. With
R211, R212 and Table 24: the bytes of their payloads, value by value; the codes and the order where no table lays a payload out are the
model's choice (assumption log 11). -/
def Obligations.ReadingCommandsOnlyAnswer : Prop :=
  (∀ (im : Image) (s : State) (x : Byte),
    let answer := fun (c : Instr) (r : Response) => exec c s = .next { finishCaptured c s with hpt.held := r }
    (Serves im s ∨ s.configured = .unconfigured →
      answer .nop ⟨.ok, 1, []⟩ ∧ answer .status ⟨.ok, 2, statusPayload s⟩) ∧
    (Serves im s →
      answer .lineStatus ⟨.ok, 3, lineStatusPayload s⟩ ∧
        (1 < x.toNat → answer (.outletStatus x) ⟨.badValue, 9, []⟩ ∧ answer (.tariffRead x) ⟨.badValue, 13, []⟩) ∧
        (∀ o, outletOf x = some o → fitted im o = true → answer (.outletStatus x) ⟨.ok, 9, outletPayload im s o⟩) ∧
        (∀ o, outletOf x = some o → fitted im o = false → answer (.outletStatus x) ⟨.ok, 9, [0]⟩) ∧
        (∀ b, bankOf x = some b → answer (.tariffRead x) ⟨.ok, 13, tariffPayload s b⟩) ∧
        (x.toNat = 0 ∨ 31 < x.toNat → answer (.rosterRead x) ⟨.badValue, 10, []⟩) ∧
        (1 ≤ x.toNat → x.toNat ≤ 31 → answer (.rosterRead x) ⟨.ok, 10, rosterPayload s x.toNat⟩) ∧
        (s.stu.queue = [] → answer .recordPeek ⟨.queueEmpty, 14, []⟩) ∧
        ∀ r rest, s.stu.queue = r :: rest →
          answer .recordPeek ⟨.ok, 14, be 1 (rest.length + 1) ++ recordBytes r⟩)) ∧
  (∀ (im : Image) (s : State) (o : Outlet), fitted im o = true →
    let u := s.out o
    let opt := fun (n : Nat) (x : Option Nat) => match x with
      | some v => be n v
      | none => List.replicate n 0xFF
    let yes := fun x : Bool => be 1 (if x then 1 else 0)
    let second := fun x : Bool => be 1 (if x then 0 else 1)
    let session := fun x : Session =>
      be 1 ([Session.idle, .starting, .dispensing, .parked, .dwell, .exhausted, .tripped, .closing, .settleWait].idxOf x)
    let mode := fun x : LineMode => be 1 ([LineMode.joined, .halfHeard, .isolated].idxOf x)
    let transmitter := be 1 ([Tx.on, .resting, .barred].idxOf s.slc.tx)
    let cause := fun x : TripCause =>
      [TripCause.eStop, .contactor, .moduleFault, .startTimeout, .confirmTimeout, .overDraw].idxOf x
    let letter := fun x : Bank => [Bank.a, .b].idxOf x
    let members := fun l : List (Bool × Nat) => be 1 ((l.map fun x => if x.1 then x.2 else 0).sum)
    let claim := fun c : Claim => yes c.present ++ be 2 c.demand ++ be 1 c.weight ++ yes c.parked
    let h := u.osc.header
    statusPayload s =
        [be 1 (match s.configured with
            | .loading _ => 0
            | .unconfigured => 1
            | .running _ => 2),
          mode s.prs.mode, be 2 s.prs.lEff, transmitter, be 2 s.shc.available, be 2 s.shc.iso, yes s.shc.busy,
          session s.outA.osc.state, session s.outB.osc.state, be 1 s.stu.queue.length, be 2 s.hpt.flags.toNat].flatten ∧
      lineStatusPayload s =
        [be 2 s.slc.checkErrors, be 2 s.slc.abortedSeen, be 2 s.slc.arbitrationLosses, be 2 s.slc.unacknowledged,
          be 2 s.slc.bitErrors, transmitter, [s.slc.sequence]].flatten ∧
      (∀ id, entryOf s.prs.roster id = none → rosterPayload s id = [0]) ∧
      (∀ id e, entryOf s.prs.roster id = some e →
        rosterPayload s id =
          [[1], be 1 e.id, second e.fresh, be 1 e.age, be 1 e.freshRun, [e.lastSequence], be 1 e.missed, claim e.claimA,
            claim e.claimB, be 2 e.granted, be 2 e.intended, be 2 e.limit, be 4 e.heard.toNat, mode e.mode,
            yes (e.fresh && decide (2 ≤ e.freshRun))].flatten) ∧
      outletPayload im s o =
        [[1], session u.osc.state,
          opt 1 (u.osc.closePhase.map fun x => [ClosePhase.outputWait, .openWait].idxOf x), be 4 h.reference.toNat, be 4 h.hold,
          be 1 h.tier, be 2 h.demand, be 2 h.floor, opt 1 (h.bound.map fun x => letter x.1),
          opt 2 (h.bound.map fun x => x.2.toNat), opt 2 h.startClock, be 4 u.osc.sessionTime, opt 1 (u.osc.tripCause.map cause),
          members [(u.osc.exhaustedFlag, 1), (u.osc.forcedOpen, 2)], yes u.osc.driveClosed, second u.hold.level,
          second u.settled.level, second u.fault.level, second u.feedback.level, second s.eStop.level,
          be 2 u.share.raw, be 2 u.share.split, be 2 u.share.target, opt 2 u.share.hypothetical,
          be 2 u.grl.target, be 2 u.grl.commanded, be 2 u.grl.inEffect, opt 2 u.grl.pending, yes u.grl.unconfirmed,
          be 1 (match u.grl.parkHold with
            | .stopped => 0
            | .running _ => 1
            | .expired => 2),
          be 2 u.grl.peak, be 4 u.grl.parkedMs, opt 2 (s.grl.riseHold.map fun time => time - s.now), yes s.grl.riseWaiting,
          second u.mtf.pulse.level, be 1 ([Capture.off, .waiting, .timing, .timedOut].idxOf u.mtf.capture),
          opt 2 u.mtf.lastInterval, opt 2 u.mtf.lastEstimate, be 2 u.mtf.smoothed, be 1 u.mtf.overDraw, be 2 u.mtf.stray,
          opt 1 (u.tru.binding.map letter),
          be 1 ([Lookup.none, .found, .noWindow, .overlap, .clockUnset].idxOf u.tru.outcome), opt 2 u.tru.price,
          opt 1 (u.tru.segment.map keyCode),
          members [(u.tru.faultNoWindow, 1), (u.tru.faultOverlap, 2), (u.tru.faultClockUnset, 4)],
          be 4 u.acc.energy, be 5 u.acc.total, be 1 u.acc.segments.length, be 2 u.acc.feeApplied, be 4 u.acc.occupancyMinutes,
          yes u.acc.stopped, be 4 u.acc.dwellMinutes,
          members [(u.acc.tariffFault, 1), (u.acc.saturated, 2), (u.acc.capped, 4)], yes u.heldRecord.isSome].flatten ∧
      (outletPayload im s o).length = 100 ∧
      (∀ b,
        tariffPayload s b =
          [members [((s.tru.bank b).isSome, 1), (s.tru.selected == b, 2), (s.outA.tru.binding == some b, 4),
              (s.outB.tru.binding == some b, 8), (s.tru.clock.set, 16)],
            be 2 s.tru.clock.minute, be 1 s.tru.clock.second, ((s.tru.bank b).map bankBytes).getD []].flatten) ∧
      (∀ i, keyCode (.window i) = i) ∧ keyCode .fallback = 8) ∧
  ∀ r : Record,
    let field := fun k n : Nat => ((recordBytes r).drop k).take n
    (recordBytes r).length = 57 + 10 * r.segments.length ∧
      field 0 2 = be 2 r.sequence.toNat ∧ field 2 1 = be 1 ([Outlet.a, .b].idxOf r.outlet) ∧ field 3 4 = be 4 r.reference.toNat ∧
      (∀ x, r.bound = some x → field 7 1 = be 1 ([Bank.a, .b].idxOf x.1) ∧ field 8 2 = be 2 x.2.toNat) ∧
      (r.bound = none → field 7 3 = [0xFF, 0xFF, 0xFF]) ∧ field 10 1 = be 1 r.tier ∧
      field 11 2 = be 2 (r.startClock.getD 65535) ∧ field 13 4 = be 4 r.duration ∧
      field 17 1 =
        be 1 ([EndCause.hostClose, .aborted, .tripped .eStop, .tripped .contactor, .tripped .moduleFault, .tripped .startTimeout,
          .tripped .confirmTimeout, .tripped .overDraw].idxOf r.endCause) ∧
      field 18 4 = be 4 r.energy ∧ field 22 2 = be 2 r.feeApplied ∧ field 24 4 = be 4 r.occupancyMinutes ∧
      field 28 5 = be 5 r.occupancyAmount ∧ field 33 4 = be 4 r.total ∧ field 37 4 = be 4 r.settled ∧ field 41 4 = be 4 r.hold ∧
      field 45 4 = be 4 r.uncollected ∧ field 49 4 = be 4 r.parkedSeconds ∧ field 53 2 = be 2 r.peak ∧
      field 55 1 =
        be 1 ((if r.tariffFault then 1 else 0) + (if r.saturated then 2 else 0) + (if r.capped then 4 else 0) +
          (if r.exhausted then 8 else 0) + if r.forcedOpen then 16 else 0) ∧
      field 56 1 = be 1 r.segments.length ∧
      ∀ (i : Nat) (g : Segment), r.segments[i]? = some g →
        field (57 + 10 * i) 10 = be 1 (keyCode g.key) ++ be 4 g.energy ++ be 5 g.amount

/-- R148: SET CLOCK with a minute-of-week of at most 10079 and seconds of at most 59 sets the clock, and otherwise changes no
clock. R147: a tick takes a SET clock one millisecond on, with the carries into seconds and minutes and from the end of the
week to its start, in every configured state; an UNSET clock stays. -/
def Obligations.TariffClockIsSetAndAdvances : Prop :=
  (∀ (im : Image) (s : State) (minute : BitVec 16) (seconds : Byte), Serves im s →
      let u := finishCaptured (.setClock minute seconds) s
      (minute.toNat ≤ 10079 → seconds.toNat ≤ 59 →
        exec (.setClock minute seconds) s =
          .next { u with tru.clock := ⟨true, minute.toNat, seconds.toNat, 0⟩, hpt.held := ⟨.ok, 5, []⟩ }) ∧
      (10079 < minute.toNat ∨ 59 < seconds.toNat →
        exec (.setClock minute seconds) s = .next { u with hpt.held := ⟨.badValue, 5, []⟩ })) ∧
  (∀ s : State,
      (s.tru.clock.set = false → exec .tariffClockAdvance s = .next { s with clockTickDue := false }) ∧
      (s.tru.clock.set = true → s.tru.clock.minute < 10080 → s.tru.clock.second < 60 → s.tru.clock.milli < 1000 →
        ∃ t, exec .tariffClockAdvance s = .next t ∧ t = { s with clockTickDue := false, tru.clock := t.tru.clock } ∧
          t.tru.clock.set = true ∧ t.tru.clock.minute < 10080 ∧ t.tru.clock.second < 60 ∧ t.tru.clock.milli < 1000 ∧
          (t.tru.clock.minute * 60 + t.tru.clock.second) * 1000 + t.tru.clock.milli =
            ((s.tru.clock.minute * 60 + s.tru.clock.second) * 1000 + s.tru.clock.milli + 1) % 604800000))

/-- R141 and R142: TARIFF LOAD is decided by its conditions in order, and accepted replaces the whole of the named bank
alone. R143: TARIFF SELECT selects a LOADED bank, and refuses an EMPTY one or a name that is neither A nor B. -/
def Obligations.BanksAreLoadedAndSelected : Prop :=
  (∀ (im : Image) (s : State) (x : Byte) (image : Vector Byte 57), Serves im s →
      let c := Instr.tariffLoad x image
      let u := finishCaptured c s
      let used := fun b => ∃ o, inSession (s.out o).osc.state = true ∧ (s.out o).tru.binding = some b
      let bad := ∃ w ∈ (bankItems image.toList).windows.toList, w.enabled = true ∧
        (95 < w.first.toNat ∨ 95 < w.last.toNat ∨ w.days = 0 ∨ w.tiers = 0 ∨ w.site = 3)
      (1 < x.toNat → exec c s = .next { u with hpt.held := ⟨.badValue, 11, []⟩ }) ∧
      ∀ b, bankOf x = some b →
        (used b → exec c s = .next { u with hpt.held := ⟨.bankInUse, 11, []⟩ }) ∧
        (¬used b → bad → exec c s = .next { u with hpt.held := ⟨.badValue, 11, []⟩ }) ∧
        (¬used b → ¬bad →
          exec c s =
            .next { u with
              tru := match b with
                | .a => { s.tru with bankA := some (bankItems image.toList) }
                | .b => { s.tru with bankB := some (bankItems image.toList) }
              hpt.held := ⟨.ok, 11, []⟩ })) ∧
  (∀ (im : Image) (s : State) (x : Byte), Serves im s →
      let u := finishCaptured (.tariffSelect x) s
      (1 < x.toNat → exec (.tariffSelect x) s = .next { u with hpt.held := ⟨.badValue, 12, []⟩ }) ∧
      ∀ b, bankOf x = some b →
        (s.tru.bank b = none → exec (.tariffSelect x) s = .next { u with hpt.held := ⟨.badValue, 12, []⟩ }) ∧
        (s.tru.bank b ≠ none → exec (.tariffSelect x) s = .next { u with tru.selected := b, hpt.held := ⟨.ok, 12, []⟩ }))

/-- R198, R199 and R200: EVENTS answers the flags and clears those named, EVENT ENABLE answers and replaces the enable set, a
set with a sixteenth member is BAD VALUE, EVENT ENABLE is refused while UNCONFIGURED, and ATTN is asserted exactly while an
enabled flag is set. -/
def Obligations.EventsAndTheEnableSet : Prop :=
  ∀ (im : Image) (s : State) (x : BitVec 16),
    (s.attn = true ↔ ∃ i : Fin 15, s.hpt.flags[i] = true ∧ s.hpt.enable[i] = true) ∧
    (Serves im s ∨ s.configured = .unconfigured →
      (x.getLsbD 15 = true →
        exec (.events x) s = .next { finishCaptured (.events x) s with hpt.held := ⟨.badValue, 16, []⟩ }) ∧
      (x.getLsbD 15 = false →
        exec (.events x) s =
          .next { finishCaptured (.events x) s with
            hpt.flags := s.hpt.flags &&& ~~~(x.extractLsb' 0 15)
            hpt.held := ⟨.ok, 16, bytes16 (s.hpt.flags.setWidth 16)⟩ })) ∧
    (Serves im s →
      (x.getLsbD 15 = true →
        exec (.eventEnable x) s = .next { finishCaptured (.eventEnable x) s with hpt.held := ⟨.badValue, 17, []⟩ }) ∧
      (x.getLsbD 15 = false →
        exec (.eventEnable x) s =
          .next { finishCaptured (.eventEnable x) s with
            hpt.enable := x.extractLsb' 0 15, hpt.held := ⟨.ok, 17, bytes16 (s.hpt.enable.setWidth 16)⟩ })) ∧
    (s.configured = .unconfigured →
      exec (.eventEnable x) s = .next { finishCaptured (.eventEnable x) s with hpt.held := ⟨.unconfigured, 17, []⟩ })

/-- R177 and R117: RECORD RELEASE removes the oldest record and answers its sequence and the count left; an outlet in
SETTLE_WAIT then puts its record in the queue and is IDLE. -/
def Obligations.RecordReleaseServesTheNextOutlet : Prop :=
  ∀ (im : Image) (s : State), Serves im s →
    let u := finishCaptured .recordRelease s
    (s.stu.queue = [] → exec .recordRelease s = .next { u with hpt.held := ⟨.queueEmpty, 15, []⟩ }) ∧
    ∀ r rest, s.stu.queue = r :: rest →
      let answer : Response := ⟨.ok, 15, bytes16 r.sequence ++ be 1 rest.length⟩
      (s.stu.settleWait = [] →
        exec .recordRelease s = .next { u with stu.queue := rest, hpt.held := answer }) ∧
      ∀ o os h, s.stu.settleWait = o :: os → (s.out o).heldRecord = some h → (s.out o).osc.state = .settleWait →
        fitted im o = true →
        ∃ t, exec .recordRelease s = .next t ∧
          EventAt o
            { u with
              stu := ⟨rest ++ [{ h with sequence := s.stu.counter }], s.stu.counter + 1, os⟩
              grl.order := s.grl.order.filter fun x => x != o
              hpt.held := answer } t ∧
          t.flagSet (changeFlag o) = true ∧ (rest = [] → t.flagSet .recordReady = true) ∧
          (rest.length = 7 → t.flagSet .queueFull = true) ∧
          t.out o =
            { s.out o with
              osc := { (s.out o).osc with state := .idle }
              heldRecord := none
              grl :=
                { (s.out o).grl with
                  target := 0, commanded := 0, inEffect := 0, pending := none, unconfirmed := false, confirmTimer := none
                  parkHold := .stopped }
              share := ⟨0, 0, 0, none⟩ }

-- Outlet sessions.

/-- R99, R185 steps 5 and 6 and R192: OPEN SESSION is decided by its conditions in order: a refusal changes nothing, and with
none of them it is accepted. -/
def Obligations.OpenSessionIsRefusedInOrder : Prop :=
  ∀ (im : Image) (s : State) (x tier : Byte) (reference hold : BitVec 32) (demand floor : BitVec 16), Serves im s →
    let c := Instr.openSession x reference hold tier demand floor
    let answer := fun status : Status => exec c s = .next { finishCaptured c s with hpt.held := ⟨status, 6, []⟩ }
    let operands := x.toNat ≤ 1 ∧ 1 ≤ hold.toNat ∧ hold.toNat ≤ 1000000 ∧ tier.toNat ≤ 3
    (¬operands → answer .badValue) ∧
    (operands → s.flagSet .restart = true → answer .restartUnseen) ∧
    ∀ o, outletOf x = some o → operands → s.flagSet .restart = false →
      (fitted im o = false → answer .badValue) ∧
      (fitted im o = true → (s.out o).osc.state ≠ .idle → answer .wrongState) ∧
      (fitted im o = true → (s.out o).osc.state = .idle →
        (s.eStop.level = true ∨ (s.out o).fault.level = true ∨ (s.out o).feedback.level = true → answer .inhibited) ∧
        (s.eStop.level = false → (s.out o).fault.level = false → (s.out o).feedback.level = false →
          (s.tru.bank s.tru.selected = none → answer .noTariff) ∧
            (s.tru.bank s.tru.selected ≠ none → ∃ t, exec c s = .next t ∧ t.hpt.held.status = .ok)))

/-- R100 with R126, R145, R159, R187 and R192: an accepted OPEN SESSION writes the header, binds the selected bank, clears
the accounts and lookup state, starts the capture and the two timers, closes the drive and enters STARTING. -/
def Obligations.OpenSessionStartsASession : Prop :=
  ∀ (im : Image) (s : State) (x tier : Byte) (reference hold : BitVec 32) (demand floor : BitVec 16) (o : Outlet)
    (bank : BankContents), Serves im s →
    outletOf x = some o → 1 ≤ hold.toNat → hold.toNat ≤ 1000000 → tier.toNat ≤ 3 → s.flagSet .restart = false →
    fitted im o = true → (s.out o).osc.state = .idle → s.eStop.level = false → (s.out o).fault.level = false →
    (s.out o).feedback.level = false → s.tru.bank s.tru.selected = some bank →
    let c := Instr.openSession x reference hold tier demand floor
    let d := min demand.toNat (pOut im o)
    let f := min floor.toNat d
    ∃ t, exec c s = .next t ∧
      EventAt o
        { finishCaptured c s with
          grl.order := s.grl.order ++ [o]
          hpt := { (finishCaptured c s).hpt with held := ⟨.ok, 6, be 2 d ++ be 2 f⟩ } } t ∧
      t.flagSet (changeFlag o) = true ∧
      t.out o =
        { s.out o with
          osc :=
            { state := .starting
              header :=
                ⟨reference, hold.toNat, tier.toNat, d, f, some (s.tru.selected, bank.version), some (s.tru.selected, bank.version),
                  if s.tru.clock.set then some s.tru.clock.minute else none⟩
              sessionTime := 0, closeOrigin := .other, tripCause := none, closePhase := none, exhaustedFlag := false
              forcedOpen := false, driveClosed := true, startTimer := some (s.now + im.startTimeout * 1000)
              mismatchTimer := some (s.now + im.feedbackTime), closeTimer := (s.out o).osc.closeTimer }
          acc := ⟨[], 0, 0, 0, 0, 0, 0, 0, false, false, false, false⟩
          mtf := ⟨(s.out o).mtf.pulse, .waiting, 0, none, none, 0, true, 0, (s.out o).mtf.stray⟩
          tru := ⟨some s.tru.selected, .none, none, none, false, false, false⟩
          grl := { (s.out o).grl with peak := 0, parkedMs := 0, target := 0, pending := none }
          share := ⟨0, 0, 0, none⟩ }

/-- R102 to R104, R187 and R193: SET DEMAND replaces demand and floor, takes a DWELL outlet with a demand of 1 or more back
to DISPENSING, and with the complete flag takes the outlet to DWELL; the computation it triggers follows. In any other state
it is refused. -/
def Obligations.SetDemandReplacesTheDemand : Prop :=
  ∀ (im : Image) (s : State) (x complete : Byte) (demand floor : BitVec 16), Serves im s →
    let c := Instr.setDemand x demand floor complete
    let u := finishCaptured c s
    (1 < x.toNat ∨ 1 < complete.toNat → exec c s = .next { u with hpt.held := ⟨.badValue, 7, []⟩ }) ∧
    ∀ o, outletOf x = some o → complete.toNat ≤ 1 →
      let d := if complete = 1 then 0 else min demand.toNat (pOut im o)
      let f := min floor.toNat d
      let st := (s.out o).osc.state
      let v := { u with hpt.held := ⟨.ok, 7, be 2 d ++ be 2 f⟩ }
      let w := fun state : Session => v.modOut o fun y =>
        { y with osc := { y.osc with state := state, header := { y.osc.header with demand := d, floor := f } } }
      (fitted im o = false → exec c s = .next { u with hpt.held := ⟨.badValue, 7, []⟩ }) ∧
      (fitted im o = true →
        (st ∈ [.idle, .exhausted, .tripped, .closing, .settleWait] ∨ (complete = 1 ∧ st = .starting) →
          exec c s = .next { u with hpt.held := ⟨.wrongState, 7, []⟩ }) ∧
        ((complete = 0 ∧ st ∈ [.starting, .dispensing, .parked]) ∨ (st = .dwell ∧ d = 0) →
          ∃ t, exec c s = .next t ∧ Shared (w st) t) ∧
        (st = .dwell → 1 ≤ d → ∃ t, exec c s = .next t ∧ Shared (w .dispensing) t ∧ t.flagSet (changeFlag o) = true) ∧
        (complete = 1 → st ∈ [.dispensing, .parked] →
          ∃ t, exec c s = .next t ∧ EventAt o v t ∧ t.flagSet (changeFlag o) = true ∧
            t.out o =
              { s.out o with
                osc := { (s.out o).osc with state := .dwell, header := { (s.out o).osc.header with demand := 0, floor := 0 } }
                acc := { (s.out o).acc with dwellClock := 0, dwellMinutes := 0 }
                mtf.overDraw := if 0 < (s.out o).grl.commanded then 0 else (s.out o).mtf.overDraw
                grl := withdrawnGrants im s.now (s.out o).grl
                share := ⟨0, 0, 0, none⟩ }))

/-- R112, R113 and R193: CLOSE SESSION is refused outside STARTING to TRIPPED; otherwise the outlet is CLOSING, in OUTPUT
WAIT while its output is not down, else in OPEN WAIT with its drive open while FEEDBACK is closed, else its close completes
at once. The completion clears the header's record of the binding with the binding (R138), and every value of the header stays readable
(R116): the model's reading of the two together (assumption log 20). -/
def Obligations.CloseSessionBeginsTheClose : Prop :=
  ∀ (im : Image) (s : State) (x : Byte), Serves im s →
    let c := Instr.closeSession x
    let u := finishCaptured c s
    let v := { u with hpt.held := ⟨.ok, 8, []⟩ }
    (1 < x.toNat → exec c s = .next { u with hpt.held := ⟨.badValue, 8, []⟩ }) ∧
    ∀ o, outletOf x = some o →
      let st := (s.out o).osc.state
      let origin : CloseOrigin := if st = .starting then .starting else .other
      let waits := st ≠ .tripped ∧ ((s.out o).grl.commanded ≠ 0 ∨ (s.out o).grl.unconfirmed = true)
      let opened :=
        { s.out o with
          osc :=
            { (s.out o).osc with
              state := .closing, closeOrigin := origin, closePhase := some .openWait, driveClosed := false
              startTimer := none, mismatchTimer := none, closeTimer := some (s.now + im.confirmTimeout) }
          grl :=
            { (s.out o).grl with
              target := 0, pending := none
              parkHold := if st = .tripped then (s.out o).grl.parkHold else .stopped }
          share := ⟨0, 0, 0, none⟩ }
      (fitted im o = false → exec c s = .next { u with hpt.held := ⟨.badValue, 8, []⟩ }) ∧
      (fitted im o = true →
        (st ∈ [.idle, .closing, .settleWait] → exec c s = .next { u with hpt.held := ⟨.wrongState, 8, []⟩ }) ∧
        (st ∉ [.idle, .closing, .settleWait] →
          ∃ t, exec c s = .next t ∧
            (waits →
              EventAt o v t ∧ t.flagSet (changeFlag o) = true ∧
                t.out o =
                  { s.out o with
                    osc :=
                      { (s.out o).osc with
                        state := .closing, closeOrigin := origin, closePhase := some .outputWait, startTimer := none }
                    mtf.overDraw := if 0 < (s.out o).grl.commanded then 0 else (s.out o).mtf.overDraw
                    grl := withdrawnGrants im s.now (s.out o).grl
                    share := ⟨0, 0, 0, none⟩ }) ∧
            (¬waits → (s.out o).feedback.level = true →
              EventAt o v t ∧ t.flagSet (changeFlag o) = true ∧ t.out o = opened) ∧
            (¬waits → (s.out o).feedback.level = false →
              CloseCompleted o (buildRecord o opened) (v.setOut o opened) t)))

/-- R101: HOLD recognised released and FEEDBACK recognised closed together take a STARTING outlet to DISPENSING and stop its
start timer, whichever comes last; each alone changes its level, and FEEDBACK closed stops the mismatch timer (R97). -/
def Obligations.StartConditionEntersDispensing : Prop :=
  ∀ (im : Image) (s : State) (o : Outlet), s.configured = .running im → fitted im o = true →
    let h := fun y : OutletState => { y with hold := ⟨false, false, 0⟩ }
    let f := fun y : OutletState => { y with feedback := ⟨true, true, 0⟩, osc.mismatchTimer := none }
    let started := fun y : OutletState => { y with osc := { y.osc with state := .dispensing, startTimer := none } }
    ((s.out o).hold.level = false → exec (.holdChange o false) s = .next (s.modOut o fun y => { y with hold := ⟨true, true, 0⟩ })) ∧
    ((s.out o).hold.level = true →
      ((s.out o).osc.state = .starting → (s.out o).feedback.level = true →
        ∃ t, exec (.holdChange o true) s = .next t ∧ Shared (s.modOut o fun y => started (h y)) t ∧
          t.flagSet (changeFlag o) = true) ∧
      ((s.out o).osc.state ≠ .starting ∨ (s.out o).feedback.level = false →
        exec (.holdChange o true) s = .next (s.modOut o h))) ∧
    ((s.out o).feedback.level = false →
      ((s.out o).osc.state = .starting → (s.out o).hold.level = false →
        ∃ t, exec (.feedbackClosed o) s = .next t ∧ Shared (s.modOut o fun y => started (f y)) t ∧
          t.flagSet (changeFlag o) = true) ∧
      ((s.out o).osc.state ≠ .starting ∨ (s.out o).hold.level = true →
        exec (.feedbackClosed o) s = .next (s.modOut o f)))

/-- R86, R87, R107 and R108, with the causes of R75, R97, R101 and R110: each of the four reports trips an outlet in a
trippable state with its own cause, and in any other state changes no session. -/
def Obligations.EachCauseTripsATrippableOutlet : Prop :=
  ∀ (im : Image) (s : State) (o : Outlet), s.configured = .running im → fitted im o = true →
    let st := (s.out o).osc.state
    let phase := (s.out o).osc.closePhase
    let can := st ∈ [.starting, .dispensing, .parked, .dwell, .exhausted] ∨ (st = .closing ∧ phase = some .outputWait)
    ((s.out o).fault.level = false →
      let u := s.modOut o fun y => { y with fault := ⟨true, true, 0⟩ }
      (can → ∃ t, exec (.faultAsserted o) s = .next t ∧ Tripped o .moduleFault u t) ∧
        (¬can → exec (.faultAsserted o) s = .next u)) ∧
    ((s.out o).osc.mismatchTimer.isSome = true →
      (can → ∃ t, exec (.mismatchTimerExpiry o) s = .next t ∧ Tripped o .contactor s t) ∧
        (¬can → exec (.mismatchTimerExpiry o) s = .next (s.modOut o fun y => { y with osc.mismatchTimer := none }))) ∧
    ((s.out o).osc.startTimer.isSome = true →
      (can → ∃ t, exec (.startTimerExpiry o) s = .next t ∧ Tripped o .startTimeout s t) ∧
        (¬can → exec (.startTimerExpiry o) s = .next (s.modOut o fun y => { y with osc.startTimer := none }))) ∧
    ((s.out o).grl.confirmTimer.isSome = true →
      (can → ∃ t, exec (.confirmTimeout o) s = .next t ∧ Tripped o .confirmTimeout s t) ∧
        (¬can → exec (.confirmTimeout o) s = .next (s.modOut o fun y => { y with grl.confirmTimer := none })))

/-- R109 with R86: E-STOP recognised asserted trips every fitted outlet in a trippable state, in the one event; an outlet in
any other state keeps it. Which outlet goes first is open while a rise waits (assumption log 4). -/
def Obligations.EStopTripsEveryTrippableOutlet : Prop :=
  ∀ (im : Image) (s : State), s.configured = .running im → s.eStop.level = false →
    ∃ t, exec .eStopAsserted s = .next t ∧
      t = { s with
            eStop := ⟨true, true, 0⟩, shc := t.shc, slc := { s.slc with slot := t.slc.slot }
            hpt := { s.hpt with flags := t.hpt.flags }
            grl := { s.grl with riseHold := t.grl.riseHold, riseWaiting := t.grl.riseWaiting }
            draws := if s.grl.riseWaiting then s.draws + 1 else s.draws
            outA := t.outA, outB := t.outB } ∧
      FlagsKept s t ∧
      ∀ o,
        (fitted im o = true → trippable (s.out o).osc = true →
          t.flagSet (tripFlag o) = true ∧ t.flagSet (changeFlag o) = true ∧
            (t.out o).osc =
              { (s.out o).osc with
                state := .tripped, tripCause := some .eStop, driveClosed := false, closePhase := none
                forcedOpen := (s.out o).osc.forcedOpen || (s.out o).osc.state == .closing
                startTimer := none, mismatchTimer := none, closeTimer := none } ∧
            (t.out o).grl.target = 0 ∧ (t.out o).grl.commanded = 0 ∧ (t.out o).grl.pending = none ∧
            (t.out o).grl.unconfirmed = false ∧ (t.out o).grl.confirmTimer = none ∧ (t.out o).grl.parkHold = .stopped ∧
            (t.out o).grl.word.isSome = true ∧ ((s.out o).feedback.level = false → (t.out o).grl.inEffect = 0) ∧
            (s.grl.riseWaiting = false → (s.out o).feedback.level = true →
              (t.out o).grl.inEffect = (s.out o).grl.inEffect) ∧
            t.out o = { s.out o with osc := (t.out o).osc, grl := (t.out o).grl, share := ⟨0, 0, 0, none⟩ }) ∧
        (fitted im o = false ∨ trippable (s.out o).osc = false →
          t.out o = otherOnly (s.out o) (t.out o) ∧ (t.out o).osc.state = (s.out o).osc.state)

/-- R94, R109, R110 and R121: E-STOP and FAULT recognised released, SETTLED recognised low and PULSE recognised inactive
change the level alone. -/
def Obligations.ReleasedLevelsChangeNothingElse : Prop :=
  ∀ (im : Image) (s : State) (o : Outlet), s.configured = .running im → fitted im o = true →
    (s.eStop.level = true → exec .eStopReleased s = .next { s with eStop := ⟨false, false, 0⟩ }) ∧
    ((s.out o).fault.level = true →
      exec (.faultReleased o) s = .next (s.modOut o fun y => { y with fault := ⟨false, false, 0⟩ })) ∧
    ((s.out o).settled.level = true →
      exec (.settledRecognisedLow o) s = .next (s.modOut o fun y => { y with settled := ⟨false, false, 0⟩ })) ∧
    ((s.out o).mtf.pulse.level = true →
      exec (.pulseRecognisedInactive o) s = .next (s.modOut o fun y => { y with mtf.pulse := ⟨false, false, 0⟩ }))

/-- R87, R97 and R114 to R117: FEEDBACK recognised open, or the close timer with FORCED OPEN, completes a close in OPEN WAIT;
FEEDBACK recognised open takes a TRIPPED outlet's in-effect grant to 0, and starts the mismatch timer under a closed drive. The completion
clears the header's record of the binding with the binding (R138), and every value of the header stays readable (R116): the model's reading
of the two together (assumption log 20). -/
def Obligations.FeedbackOpenCompletesTheClose : Prop :=
  ∀ (im : Image) (s : State) (o : Outlet), s.configured = .running im → fitted im o = true →
    let u := s.modOut o fun y => { y with feedback := ⟨false, false, 0⟩ }
    let v := s.modOut o fun y => { y with osc.forcedOpen := true }
    let st := (s.out o).osc.state
    let openWait := st = .closing ∧ (s.out o).osc.closePhase = some .openWait
    ((s.out o).feedback.level = true →
      (openWait →
        ∃ t, exec (.feedbackOpen o) s = .next t ∧ CloseCompleted o (buildRecord o (u.out o)) u t) ∧
      (st = .tripped →
        ∃ t, exec (.feedbackOpen o) s = .next t ∧
          t = { u.modOut o (fun y => { y with grl.inEffect := 0 }) with slc.slot := t.slc.slot }) ∧
      (¬openWait → st ≠ .tripped → (s.out o).osc.driveClosed = true →
        exec (.feedbackOpen o) s =
          .next (u.modOut o fun y => { y with osc.mismatchTimer := some (s.now + im.feedbackTime) })) ∧
      (¬openWait → st ≠ .tripped → (s.out o).osc.driveClosed = false → exec (.feedbackOpen o) s = .next u)) ∧
    (openWait → (s.out o).osc.closeTimer.isSome = true →
      ∃ t, exec (.closeTimerExpiry o) s = .next t ∧ CloseCompleted o (buildRecord o (v.out o)) v t)

/-- R115, R169 and R170: the record's total is the running total in minor units, half a unit rounded up, its settled amount
is the smaller of that and the hold, the rest is uncollected and then marked CAPPED, and a trip cause goes before the close's
origin. R168, R171 and R172: the other fields are those of the session header, the accounts, the session figures and the session flags as
they stand at the completion. -/
def Obligations.RecordSettlesWithinTheHold : Prop :=
  ∀ (o : Outlet) (u : OutletState),
    let r := buildRecord o u
    r.total = (u.acc.total + 5000) / 10000 ∧ r.hold = u.osc.header.hold ∧ r.settled = min r.total r.hold ∧
      r.settled ≤ r.hold ∧ r.uncollected = r.total - r.settled ∧
      (r.capped = true ↔ u.acc.capped = true ∨ 0 < r.uncollected) ∧
      (u.acc.total ≤ 1099511627775 → r.total ≤ 109951163) ∧
      r.duration = u.osc.sessionTime / 1000 ∧ r.parkedSeconds = u.grl.parkedMs / 1000 ∧ r.peak = u.grl.peak ∧
      r.outlet = o ∧ r.reference = u.osc.header.reference ∧ r.bound = u.osc.header.binding ∧ r.tier = u.osc.header.tier ∧
      r.startClock = u.osc.header.startClock ∧ r.energy = u.acc.energy ∧ r.segments = u.acc.segments ∧
      r.feeApplied = u.acc.feeApplied ∧ r.occupancyMinutes = u.acc.occupancyMinutes ∧
      r.occupancyAmount = u.acc.occupancyAmount ∧ r.tariffFault = u.acc.tariffFault ∧ r.saturated = u.acc.saturated ∧
      r.exhausted = u.osc.exhaustedFlag ∧ r.forcedOpen = u.osc.forcedOpen ∧
      (∀ cause, u.osc.tripCause = some cause → r.endCause = .tripped cause) ∧
      (u.osc.tripCause = none →
        r.endCause = match u.osc.closeOrigin with
          | .starting => .aborted
          | .other => .hostClose)

-- Shares and grants.

/-- R49 to R53: a run gives every claimant one share, at most its demand and together at most the amount; with the demands
together at most the amount each share is the demand; and the shares do not depend on the order of the claimants. R50: with the demands
above the amount V and W the sum of d × w, the claimants whose floor(V × d × w / W) reaches their demand d receive d, and the others run again on
V less those demands; where there are none, each receives its floor(V × d × w / W). -/
def Obligations.WaterFillDividesTheAmount : Prop :=
  ∀ (v : Nat) (cs : List Claimant), (∀ c ∈ cs, 1 ≤ c.demand ∧ 1 ≤ c.weight) →
    ((waterFill v cs).map Prod.fst).Perm cs ∧ (∀ x ∈ waterFill v cs, x.2 ≤ x.1.demand) ∧
      ((waterFill v cs).map Prod.snd).sum ≤ v ∧
      (demandSum cs ≤ v → ∀ x ∈ waterFill v cs, x.2 = x.1.demand) ∧
      (v < demandSum cs →
        v < ((waterFill v cs).map Prod.snd).sum + cs.length ∧
          let share := fun c : Claimant => v * c.demand * c.weight / (cs.map fun c => c.demand * c.weight).sum
          let settled := cs.filter fun c => decide (c.demand ≤ share c)
          let others := cs.filter fun c => decide (share c < c.demand)
          (settled = [] → (waterFill v cs).Perm (cs.map fun c => (c, share c))) ∧
            (settled ≠ [] →
              (waterFill v cs).Perm
                (settled.map (fun c => (c, c.demand)) ++ waterFill (v - (settled.map Claimant.demand).sum) others))) ∧
      ∀ ds, cs.Perm ds → (waterFill v cs).Perm (waterFill v ds)

/-- R54: the raw demand is the demand, at most the rating, of a fitted outlet in DISPENSING or PARKED, and 0 otherwise. R55: the split demand is an
outlet's share of P_max among the outlets in DISPENSING with raw demand at least 1, each with the weight of its tier. R59 to R61: the
target is its share of A among the own outlets with split demand at least 1 and, in JOINED, the present claims of FRESH entries that are
not parked and have demand at least 1. So target, split demand, raw demand and rating bound one another in that order, both split demands
together are at most P_max, both targets at most A, and two demands that fit P_max are not split. R56 to R58:
in JOINED A is L_eff less the guard, less the STALE entries' larger of granted and intended, held at 40000, and less U isolated shares, and is 0
where that is negative; in the other modes it is the isolated share, floor((L_eff - guard) / N_eff), 0 with L_eff at or below the guard. R62: the
site is busy exactly in JOINED with at least one site claimant and their demands together at least floor(L_eff × busy percent / 100).
R64: the hypothetical share of a PARKED outlet is the share it would have if it were DISPENSING, and no other outlet has one. -/
def Obligations.TargetsStayWithinTheSplits : Prop :=
  ∀ (im : Image) (s : State),
    (let raw := fun o =>
        let u := (s.out o).osc
        if fitted im o = true ∧ (u.state = .dispensing ∨ u.state = .parked) then min u.header.demand (pOut im o) else 0
      let weight := fun o => match (s.out o).osc.header.tier with
        | 0 => im.weight0
        | 1 => im.weight1
        | 2 => im.weight2
        | _ => im.weight3
      let shareIn := fun (o : Outlet) (run : List (Claimant × Nat)) =>
        ((run.filter fun x => decide (x.1.own = some o)).map Prod.snd).sum
      let outlets := [Outlet.a, .b]
      let pedestal := (outlets.filter fun o => decide ((s.out o).osc.state = .dispensing ∧ 1 ≤ raw o)).map fun o =>
        Claimant.mk (some o) (raw o) (weight o)
      let own := (outlets.filter fun o => decide (1 ≤ splitDemand im s none o)).map fun o =>
        Claimant.mk (some o) (splitDemand im s none o) (weight o)
      let peers := (((s.prs.roster.filter Entry.fresh).flatMap fun e => [e.claimA, e.claimB]).filter fun c =>
        decide (c.present = true ∧ c.parked = false ∧ 1 ≤ c.demand)).map fun c => Claimant.mk none c.demand c.weight
      ∀ o, rawDemand im s o = raw o ∧ splitDemand im s none o = shareIn o (waterFill im.pMax pedestal) ∧
        siteShare im s none o =
          shareIn o (waterFill (availablePower im s) (if s.prs.mode = .joined then own ++ peers else own))) ∧
    (∀ o, siteShare im s none o ≤ splitDemand im s none o ∧ splitDemand im s none o ≤ rawDemand im s o ∧
      rawDemand im s o ≤ pOut im o ∧ ((s.out o).osc.state ≠ .dispensing → splitDemand im s none o = 0)) ∧
    splitDemand im s none .a + splitDemand im s none .b ≤ im.pMax ∧
    siteShare im s none .a + siteShare im s none .b ≤ availablePower im s ∧
    (let iso := max 0 ((s.prs.lEff : Int) - im.guard) / s.prs.nEff
      let stale := min 40000 (((s.prs.roster.filter fun e => !e.fresh).map fun e => max e.granted e.intended).sum)
      (isolatedShare im s : Int) = iso ∧
        (availablePower im s : Int) =
          if s.prs.mode = .joined then max 0 ((s.prs.lEff : Int) - im.guard - stale - s.prs.unseen * iso) else iso) ∧
    (s.outA.osc.state = .dispensing → s.outB.osc.state = .dispensing →
      rawDemand im s .a + rawDemand im s .b ≤ im.pMax →
      splitDemand im s none .a = rawDemand im s .a ∧ splitDemand im s none .b = rawDemand im s .b) ∧
    (let of := fun c : Claim => if c.present = true ∧ c.parked = false then c.demand else 0
      let peers := ((s.prs.roster.filter Entry.fresh).map fun e => of e.claimA + of e.claimB).sum
      let sum := splitDemand im s none .a + splitDemand im s none .b + peers
      siteBusy im s = true ↔ s.prs.mode = .joined ∧ 1 ≤ sum ∧ s.prs.lEff * im.busyPercent / 100 ≤ sum) ∧
    ∀ o,
      let dispensing := s.modOut o fun u => { u with osc := { u.osc with state := .dispensing } }
      (fitted im o = true → (s.out o).osc.state = .parked →
        hypotheticalShare im s o = some (siteShare im dispensing none o)) ∧
      (fitted im o = false ∨ (s.out o).osc.state ≠ .parked → hypotheticalShare im s o = none)

/-- R76 to R79: a rise evaluation raises setpoint and in-effect grant together, only of outlets with a pending rise, each by
at most the rise step and up to its pending rise, lead outlet first, and brings the station's total no further than headroom
and P_max allow. At the expiry of the rise hold the rises are evaluated, or wait while a decrease is unconfirmed. -/
def Obligations.RiseEvaluationStaysWithinTheHeadroom : Prop :=
  (∀ (im : Image) (s : State) (x y : Outlet), x ≠ y → s.grl.order = [x, y] ∨ s.grl.order = [x] →
      (∀ o p, (s.out o).grl.pending = some p → (s.out o).grl.commanded < p) →
      let t := evaluateRises im s
      let total := s.outA.grl.commanded + s.outB.grl.commanded
      let room := min (headroom im s) im.pMax - total
      let step := fun (o : Outlet) (left : Nat) =>
        match (s.out o).grl.pending with
        | some p => min im.riseStep (min (p - (s.out o).grl.commanded) left)
        | none => 0
      let raised := fun (o : Outlet) (n : Nat) =>
        (t.out o).grl.commanded = (s.out o).grl.commanded + n ∧ (t.out o).grl.inEffect = (s.out o).grl.inEffect + n ∧
          (t.out o).grl.unconfirmed = (s.out o).grl.unconfirmed ∧
          (t.out o).grl.confirmTimer = (s.out o).grl.confirmTimer ∧
          (t.out o).grl.pending =
            (if (s.out o).grl.pending = some ((t.out o).grl.commanded) then none else (s.out o).grl.pending) ∧
          (1 ≤ n → (t.out o).grl.word.isSome = true ∧
            (t.out o).grl.peak = max (s.out o).grl.peak (t.out o).grl.inEffect) ∧
          (n = 0 → (t.out o).grl = (s.out o).grl)
      raised x (step x room) ∧ raised y (if y ∈ s.grl.order then step y (room - step x room) else 0) ∧
        t.outA.grl.commanded + t.outB.grl.commanded ≤ max total (min (headroom im s) im.pMax) ∧
        t.grl = ⟨if noPending t then none else some (s.now + im.sharePeriod), false, s.grl.order⟩ ∧
        t = { s with
              grl := t.grl
              outA := { s.outA with grl := t.outA.grl }
              outB := { s.outB with grl := t.outB.grl } }) ∧
  (∀ (im : Image) (s : State), s.configured = .running im → s.grl.riseHold.isSome = true →
      (s.outA.grl.unconfirmed = true ∨ s.outB.grl.unconfirmed = true →
        exec .riseHoldExpiry s = .next { s with grl.riseHold := none, grl.riseWaiting := true }) ∧
      (s.outA.grl.unconfirmed = false → s.outB.grl.unconfirmed = false →
        ∃ t, exec .riseHoldExpiry s = .next t ∧
          t = { evaluateRises im { s with grl.riseHold := none } with slc.slot := t.slc.slot }))

/-- R65: the headroom is, in JOINED, L_eff less the guard, less what FRESH entries stand behind (the larger of granted and intended), less the
same of STALE entries, held at 40000 (R57), and less U isolated shares, and is 0 where that is negative; in the other modes it is the
isolated share. R78: a rise that is applied leaves the station's total, with what FRESH and STALE peers stand behind, the unseen
stations' isolated shares and the guard, within L_eff in JOINED, and within the isolated share in the other modes. -/
def Obligations.AppliedRiseFitsWhatThePeersStandBehind : Prop :=
  (∀ (im : Image) (s : State),
    let iso := max 0 ((s.prs.lEff : Int) - im.guard) / s.prs.nEff
    let behind := fun fresh : Bool =>
      ((s.prs.roster.filter fun e => e.fresh == fresh).map fun e => max e.granted e.intended).sum
    (headroom im s : Int) =
      if s.prs.mode = .joined then
        max 0 ((s.prs.lEff : Int) - im.guard - behind true - min 40000 (behind false) - s.prs.unseen * iso)
      else iso) ∧
  ∀ (im : Image) (s : State),
    let t := evaluateRises im s
    let before := s.outA.grl.commanded + s.outB.grl.commanded
    let after := t.outA.grl.commanded + t.outB.grl.commanded
    let held := fun (fresh : Bool) =>
      ((s.prs.roster.filter fun e => e.fresh == fresh).map fun e => max e.granted e.intended).sum
    before < after →
      after ≤ im.pMax ∧
      (s.prs.mode = .joined →
        after + held true + min 40000 (held false) + s.prs.unseen * ((s.prs.lEff - im.guard) / s.prs.nEff) + im.guard ≤
          s.prs.lEff) ∧
      (s.prs.mode ≠ .joined → after ≤ (s.prs.lEff - im.guard) / s.prs.nEff)

/-- R71 and R74: at the end of a setpoint word a further word with the setpoint as it then stands follows if one is owed, and
a rise of SETTLED already in the filter is one from an earlier word. R81: the expiry of the park hold is marked, and nothing
else happens until a hand-over. R213: a setpoint word is a LOW start bit, 24 data bits and a HIGH stop bit, and between words SETPT rests
HIGH; the data bits carry the setpoint in their first two bytes and, in the third, 255 less the sum of the two modulo 256. That a word takes three
units of 0.1 ms is the model's choice (assumption log 10). -/
def Obligations.WordsEndAndParkHoldsExpire : Prop :=
  ((∀ (im : Image) (s : State) (o : Outlet), s.configured = .running im → fitted im o = true →
        (s.out o).grl.word.isSome = true →
        let rising := !(s.out o).settled.level && decide (0 < (s.out o).settled.run)
        ((s.out o).grl.wordAgain = true →
          exec (.setpointWordEnd o) s =
            .next (s.modOut o fun u =>
              { u with
                grl.word := some (setptWord u.grl.commanded), grl.wordAgain := false, grl.wordLeft := 3
                grl.earlierRise := rising })) ∧
        ((s.out o).grl.wordAgain = false →
          exec (.setpointWordEnd o) s =
            .next (s.modOut o fun u => { u with grl.word := none, grl.wordLeft := 0, grl.earlierRise := rising }))) ∧
    (∀ (im : Image) (s : State) (o : Outlet) (time : Nat), s.configured = .running im → fitted im o = true →
        (s.out o).grl.parkHold = .running time →
        exec (.parkHoldExpiry o) s = .next (s.modOut o fun u => { u with grl.parkHold := .expired }))) ∧
  (∀ steps : Nat, steps < 65536 →
      ((setpointWord steps).extractLsb' 8 16).toNat = steps ∧
        ((setpointWord steps).extractLsb' 16 8 + (setpointWord steps).extractLsb' 8 8 + (setpointWord steps).extractLsb' 0 8) = 255 ∧
        (setptWord steps).extractLsb' 1 24 = setpointWord steps ∧
        ∀ g : Grl,
          (g.word = none → ∀ bit, setptLevel g bit = true) ∧
            (g.word = some (setptWord steps) →
              setptLevel g 0 = false ∧ setptLevel g 25 = true ∧
                ∀ i : Fin 24, setptLevel g (1 + i) = (setpointWord steps).getMsbD i))

/-- R74, R77, R85 and R113: a rise of SETTLED of the latest word, with a decrease unconfirmed, stops the confirm timer,
lowers the in-effect grant to the setpoint, has the next estimate reseed, releases a waiting rise, and ends the OUTPUT WAIT
of a close. Any other rise is ignored. R8, R70 and R78: the lowered grant is an update of the announced values, and the rises it releases
are one of their own, so that an EMPTY slot leaves EMPTY though the second brings the values back; that a whole rise evaluation is one update,
and one that leaves its values as they were none, is the model's reading (assumption log 16). A completed close clears the header's record
of the binding with the binding (R138) and keeps every value of the header readable (R116): the model's reading too (log 20). -/
def Obligations.ConfirmationLowersTheGrant : Prop :=
  ∀ (im : Image) (s : State) (o : Outlet), s.configured = .running im → fitted im o = true → (s.out o).settled.level = false →
    let g := (s.out o).grl
    let u := s.modOut o fun y => { y with settled := ⟨true, true, 0⟩, grl.earlierRise := false }
    let v := u.modOut o fun y =>
      { y with
        grl := { y.grl with confirmTimer := none, unconfirmed := false, inEffect := y.grl.commanded }
        mtf.reseed := true }
    let w := if s.grl.riseWaiting = true ∧ (s.out (otherOutlet o)).grl.unconfirmed = false then evaluateRises im v else v
    let down := (s.out o).osc.state = .closing ∧ (s.out o).osc.closePhase = some .outputWait ∧ (w.out o).grl.commanded = 0
    let x := w.modOut o fun y =>
      { y with
        osc := { y.osc with
          closePhase := some .openWait, driveClosed := false, mismatchTimer := none
          closeTimer := some (s.now + im.confirmTimeout) } }
    let quarter := im.sharePeriod / 4
    let owed : Slot := match s.slc.lastDone with
      | some done => if s.now < done + quarter then .deferred (done + quarter) else .due .announce
      | none => .due .announce
    let announces := s.slc.slot = .empty ∧ s.slc.leaveWait = false ∧ s.slc.tx ≠ .barred
    let updates := fun y z : State => announced im z ≠ announced im y ∧ s.slc.reference ≠ some (announced im z)
    (g.unconfirmed = false ∨ g.word ≠ none ∨ g.earlierRise = true → exec (.confirmation o) s = .next u) ∧
    (g.unconfirmed = true → g.word = none → g.earlierRise = false →
      ∃ t, exec (.confirmation o) s = .next t ∧
        (¬down → t = { w with slc.slot := t.slc.slot }) ∧
        (down → (s.out o).feedback.level = true → t = { x with slc.slot := t.slc.slot }) ∧
        (down → (s.out o).feedback.level = false → CloseCompleted o (buildRecord o (x.out o)) x t) ∧
        (¬announces → t.slc.slot = s.slc.slot) ∧ (announces → updates s v ∨ updates v w → t.slc.slot = owed) ∧
        (announces → ¬updates s v → ¬updates v w → ¬down ∨ (s.out o).feedback.level = true → t.slc.slot = .empty))

/-- R72, R73, R76, R80 and R82 at one fitted outlet of a hand-over: park below the floor, decrease, pending rise, none, or
resume. The hand-over deals with each outlet from its own values; with no pending rise left it stops the rise hold and clears the
rise-waiting flag, and with one left it starts a stopped hold of one share period unless a rise waits, and restarts none. That the pending
rises are looked at once, at the end of the hand-over, and not between a parking and the other outlet, is the model's choice (assumption
log 21). -/
def Obligations.HandOverFollowsTheTarget : Prop :=
  (∀ (im : Image) (s : State),
    let t := handOver im s
    let pending := ∃ o, (t.out o).grl.pending ≠ none
    t = { s with
          hpt := { s.hpt with flags := t.hpt.flags }
          grl := t.grl, outA := (handOverAt im .a s).outA, outB := (handOverAt im .b s).outB } ∧
      t.hpt.flags = (handOverAt im .a s).hpt.flags ||| (handOverAt im .b s).hpt.flags ∧ t.grl.order = s.grl.order ∧
      (∀ o, fitted im o = false → handOverAt im o s = s) ∧
      (¬pending → t.grl.riseHold = none ∧ t.grl.riseWaiting = false) ∧
      (pending → t.grl.riseWaiting = s.grl.riseWaiting ∧
        t.grl.riseHold =
          if s.grl.riseHold = none ∧ s.grl.riseWaiting = false then some (s.now + im.sharePeriod) else s.grl.riseHold)) ∧
  ∀ (im : Image) (s : State) (o : Outlet), fitted im o = true →
    let u := s.out o
    let target := u.share.target
    let g := { u.grl with target := target }
    let lowered := fun c : Nat =>
      sendWord { g with commanded := c, pending := none, unconfirmed := true, confirmTimer := some (s.now + im.confirmTimeout) }
    let result := fun (state : Session) (h : Grl) (overDraw : Nat) =>
      handOverAt im o s =
        (if state = u.osc.state then s else raise (changeFlag o) s).setOut o
          { u with osc.state := state, grl := h, mtf.overDraw := overDraw }
    (u.osc.state = .dispensing →
      (target < u.osc.header.floor → 0 < g.commanded →
        result .parked { lowered 0 with parkHold := .running (s.now + im.parkHold * 1000) } 0) ∧
      (target < u.osc.header.floor → g.commanded = 0 →
        result .parked { g with pending := none, parkHold := .running (s.now + im.parkHold * 1000) } u.mtf.overDraw) ∧
      (u.osc.header.floor ≤ target → target < g.commanded → result .dispensing (lowered target) 0) ∧
      (u.osc.header.floor ≤ target → g.commanded < target →
        result .dispensing { g with pending := some target } u.mtf.overDraw) ∧
      (u.osc.header.floor ≤ target → g.commanded = target → result .dispensing { g with pending := none } u.mtf.overDraw)) ∧
    (u.osc.state = .parked →
      let resumes := g.parkHold = .expired ∧ ∃ h, u.share.hypothetical = some h ∧ u.osc.header.floor + im.resumeMargin ≤ h
      (resumes → result .dispensing { g with parkHold := .stopped } u.mtf.overDraw) ∧
        (¬resumes → result .parked g u.mtf.overDraw)) ∧
    (u.osc.state ≠ .dispensing → u.osc.state ≠ .parked → result u.osc.state { g with pending := none } u.mtf.overDraw)

-- Metering, prices and accounts.

/-- R124: a pulse of an outlet that is IDLE or in SETTLE_WAIT is stray: it is counted up to 65535 and raises STRAY PULSE, and
touches nothing else. R129: a no-flow in TIMING sets the last estimate, the smoothed power and the over-draw count to 0 and
the capture to TIMED OUT. -/
def Obligations.StrayPulsesAndNoFlow : Prop :=
  (∀ (im : Image) (s : State) (o : Outlet), s.configured = .running im → fitted im o = true →
      (s.out o).mtf.pulse.level = false → (s.out o).osc.state = .idle ∨ (s.out o).osc.state = .settleWait →
      exec (.meterPulse o) s =
        .next { s.modOut o (fun u =>
            { u with mtf := { u.mtf with pulse := ⟨true, true, 0⟩, stray := min 65535 (u.mtf.stray + 1) } }) with
          hpt.flags := s.hpt.flags ||| flagMask .strayPulse }) ∧
  (∀ (im : Image) (s : State) (o : Outlet), s.configured = .running im → fitted im o = true → (s.out o).mtf.capture = .timing →
      exec (.noFlow o) s =
        .next (s.modOut o fun u =>
          { u with
            mtf := { u.mtf with capture := .timedOut, counter := 65535, lastEstimate := some 0, smoothed := 0, overDraw := 0 } }))

/-- R125, R150 and R160: every billed pulse is priced from the bound bank and accrued, whatever the session state, and marks
its fault. R127 to R134 and R164: it then starts the timing or gives an estimate with its over-draw test. With no credit
reached and no over-draw limit reached nothing else happens; the credit reached in DISPENSING exhausts the session, and the
over-draw limit trips an outlet. A pulse that does both leaves it TRIPPED with the EXHAUSTED flag, unless a setpoint above 0 or a decrease
unconfirmed holds the over-draw count at 0 (R125, R133). -/
def Obligations.BilledPulseIsAccruedAndTested : Prop :=
  (∀ (im : Image) (s : State) (o : Outlet) (b : Bank) (bank : BankContents), s.configured = .running im →
      fitted im o = true → (s.out o).mtf.pulse.level = false → inSession (s.out o).osc.state = true →
      (s.out o).tru.binding = some b → s.tru.bank b = some bank →
      let p := lookup im s.tru.clock s.shc.busy (s.out o).osc.header.tier bank
      ∃ t, exec (.meterPulse o) s = .next t ∧ EventAt o s t ∧
        (t.out o).tru = recordLookup p (s.out o).tru ∧
        (t.out o).acc = accrue im.pulseWeight bank.sessionFee.toNat p (s.out o).acc ∧
        (isTariffFault p.outcome = true → t.flagSet .tariffFault = true) ∧
        (t.out o).mtf.pulse = ⟨true, true, 0⟩ ∧ (t.out o).mtf.stray = (s.out o).mtf.stray ∧
        (t.out o).osc.header = (s.out o).osc.header ∧ (t.out o).heldRecord = (s.out o).heldRecord ∧
        (t.out o).hold = (s.out o).hold ∧ (t.out o).settled = (s.out o).settled ∧ (t.out o).fault = (s.out o).fault ∧
        (t.out o).feedback = (s.out o).feedback) ∧
  (∀ (im : Image) (s : State) (o : Outlet) (b : Bank) (bank : BankContents), s.configured = .running im →
      fitted im o = true → (s.out o).mtf.pulse.level = false → inSession (s.out o).osc.state = true →
      (s.out o).tru.binding = some b → s.tru.bank b = some bank →
      let u := s.out o
      let p := lookup im s.tru.clock s.shc.busy u.osc.header.tier bank
      let acc := accrue im.pulseWeight bank.sessionFee.toNat p u.acc
      let flags := if isTariffFault p.outcome then s.hpt.flags ||| flagMask .tariffFault else s.hpt.flags
      let n := max 1 u.mtf.counter
      let e := min 65535 (im.pulseWeight * 360000 / n)
      let smoothed := smooth im.beta u.mtf.reseed u.mtf.smoothed e
      let count := if u.grl.unconfirmed = false ∧ u.grl.inEffect + im.tolerance < smoothed then u.mtf.overDraw + 1 else 0
      let billed := fun m : Mtf =>
        { s.setOut o { u with tru := recordLookup p u.tru, acc := acc, mtf := { m with pulse := ⟨true, true, 0⟩ } } with
          hpt.flags := flags }
      let timing := { u.mtf with capture := .timing, counter := 0 }
      let estimated := fun k : Nat =>
        { u.mtf with
          counter := 0, lastInterval := some n, lastEstimate := some e, smoothed := smoothed, reseed := false, overDraw := k }
      let credit := u.osc.state = .dispensing ∧
        (u.osc.header.hold * 10000 : Int) - im.stopReserve * p.price ≤ (acc.total : Int)
      (¬credit → u.mtf.capture = .waiting ∨ u.mtf.capture = .timedOut → exec (.meterPulse o) s = .next (billed timing)) ∧
      (¬credit → u.mtf.capture = .timing → count < im.overDrawLimit →
        exec (.meterPulse o) s = .next (billed (estimated count))) ∧
      (¬credit → u.mtf.capture = .timing → im.overDrawLimit ≤ count → trippable u.osc = false →
        exec (.meterPulse o) s = .next (billed (estimated 0))) ∧
      (¬credit → u.mtf.capture = .timing → im.overDrawLimit ≤ count → trippable u.osc = true →
        ∃ t, exec (.meterPulse o) s = .next t ∧ Tripped o .overDraw (billed (estimated 0)) t) ∧
      (credit → u.mtf.capture = .waiting ∨ u.mtf.capture = .timedOut →
        ∃ t, exec (.meterPulse o) s = .next t ∧ EventAt o s t ∧ t.flagSet .exhausted = true ∧
          t.flagSet (changeFlag o) = true ∧
          t.out o =
            { (billed timing).out o with
              osc := { u.osc with state := .exhausted, exhaustedFlag := true }
              mtf :=
                { timing with
                  pulse := ⟨true, true, 0⟩, overDraw := if 0 < u.grl.commanded then 0 else u.mtf.overDraw }
              grl := withdrawnGrants im s.now u.grl
              share := ⟨0, 0, 0, none⟩ }) ∧
      (credit → u.mtf.capture = .timing →
        let held := if u.grl.commanded = 0 then count else 0
        let exhausted := fun k : Nat =>
          { (billed (estimated k)).out o with
            osc := { u.osc with state := .exhausted, exhaustedFlag := true }
            grl := withdrawnGrants im s.now u.grl
            share := ⟨0, 0, 0, none⟩ }
        ∃ t, exec (.meterPulse o) s = .next t ∧ EventAt o s t ∧ t.flagSet .exhausted = true ∧
          t.flagSet (changeFlag o) = true ∧
          (held < im.overDrawLimit → t.out o = exhausted held) ∧
          (im.overDrawLimit ≤ held → Tripped o .overDraw (s.setOut o (exhausted 0)) t)))

/-- R128: the power estimate from an interval of n units is floor(pulse weight × 360000 / n) steps, limited to 65535, and it
becomes the last estimate. R130: with no reseed pending the smoothed power moves by the signed difference over 2^β, rounded
toward zero; a difference below 2^β leaves it, and it stays within 0 to 65535. R131: with a reseed pending it becomes the estimate, and the
reseed is over. -/
def Obligations.EstimatesAreSmoothed : Prop :=
  (∀ (im : Image) (n : Nat) (m : Mtf), 1 ≤ n →
      let e := min 65535 (im.pulseWeight * 360000 / n)
      estimateOf im.pulseWeight n = e ∧ (takeEstimate im n m).lastEstimate = some e ∧
        (takeEstimate im n m).lastInterval = some n ∧ (takeEstimate im n m).counter = 0 ∧
        (takeEstimate im n m).reseed = false ∧ (m.reseed = true → (takeEstimate im n m).smoothed = e) ∧
        (m.reseed = false → (takeEstimate im n m).smoothed = smooth im.beta false m.smoothed e)) ∧
  (∀ beta smoothed estimate : Nat, smoothed ≤ 65535 → estimate ≤ 65535 →
      (smooth beta false smoothed estimate : Int) = smoothed + Int.tdiv ((estimate : Int) - smoothed) (2 ^ beta) ∧
        (((estimate : Int) - smoothed).natAbs < 2 ^ beta → smooth beta false smoothed estimate = smoothed) ∧
        smooth beta false smoothed estimate ≤ 65535 ∧
        (estimate ≤ smoothed → estimate ≤ smooth beta false smoothed estimate ∧ smooth beta false smoothed estimate ≤ smoothed) ∧
        (smoothed ≤ estimate → smoothed ≤ smooth beta false smoothed estimate ∧ smooth beta false smoothed estimate ≤ estimate))

/-- R149 to R152: one window that matches the slot, the day class, the tier and the site-busy flag gives its price; none, two
or more, and an UNSET clock give the fallback price with their fault. R152 and R153: the outcome, price and segment of the lookup become the
outlet's last ones, an outcome that is a fault joins the session fault set, and the faults are NO WINDOW, OVERLAP and CLOCK UNSET. -/
def Obligations.LookupFindsTheOneWindow : Prop :=
  (∀ outcome, isTariffFault outcome = true ↔ outcome ∈ [.noWindow, .overlap, .clockUnset]) ∧
  (∀ (p : Priced) (t : TruOutlet),
    recordLookup p t =
      { t with
        outcome := p.outcome, price := some p.price, segment := some p.segment
        faultNoWindow := t.faultNoWindow || decide (p.outcome = .noWindow)
        faultOverlap := t.faultOverlap || decide (p.outcome = .overlap)
        faultClockUnset := t.faultClockUnset || decide (p.outcome = .clockUnset) }) ∧
  ∀ (im : Image) (clock : Clock) (busy : Bool) (tier : Nat) (bank : BankContents),
    let day := clock.minute / 1440
    let slot := (clock.minute - 1440 * day) / 15
    let fits := fun i : Fin 8 =>
      let w := bank.windows[i]
      w.enabled = true ∧
        (if w.first.toNat ≤ w.last.toNat then w.first.toNat ≤ slot ∧ slot ≤ w.last.toNat
          else w.first.toNat ≤ slot ∨ slot ≤ w.last.toNat) ∧
        w.days.getLsbD (if im.weekend.getLsbD day then 1 else 0) = true ∧ w.tiers.getLsbD tier = true ∧
        (w.site = 0 ∨ (w.site = 1 ∧ busy = false) ∨ (w.site = 2 ∧ busy = true))
    (clock.set = false → lookup im clock busy tier bank = ⟨.clockUnset, bank.fallback.toNat, .fallback⟩) ∧
    (clock.set = true →
      ((∀ i, ¬fits i) → lookup im clock busy tier bank = ⟨.noWindow, bank.fallback.toNat, .fallback⟩) ∧
      (∀ i, fits i → (∀ j, fits j → j = i) →
        lookup im clock busy tier bank = ⟨.found, (bank.windows[i]).price.toNat, .window i⟩) ∧
      (∀ i j, i ≠ j → fits i → fits j → lookup im clock busy tier bank = ⟨.overlap, bank.fallback.toNat, .fallback⟩))

/-- R160 to R163: within the energy limit a pulse adds its weight and its price to the segment of its key, at the list's end where the
key is new, and to the session, and the first one brings the session fee; each amount saturates on its own and then marks SATURATED. Past
the energy limit the pulse adds nothing and marks SATURATED. -/
def Obligations.AccrualAddsThePulse : Prop :=
  ∀ (weight fee : Nat) (p : Priced) (a : Accounts),
    let t := accrue weight fee p a
    let limit := 1099511627775
    let price := weight * p.price
    let keys := fun x : Accounts => x.segments.map Segment.key
    let energyOf := fun x : Accounts => ((x.segments.filter fun g => g.key = p.segment).map Segment.energy).sum
    let amountOf := fun x : Accounts => ((x.segments.filter fun g => g.key = p.segment).map Segment.amount).sum
    let first := a.energy = 0
    (4294967295 < a.energy + weight →
      t = { a with saturated := true, tariffFault := a.tariffFault || isTariffFault p.outcome }) ∧
    (a.energy + weight ≤ 4294967295 →
      t.energy = a.energy + weight ∧ energyOf t = energyOf a + weight ∧
        ((keys a).Nodup →
          amountOf t = min limit (amountOf a + price) ∧
            (t.saturated = true ↔
              a.saturated = true ∨ limit < a.total + price ∨ limit < amountOf a + price ∨
                (first ∧ limit < min limit (a.total + price) + fee * 10000))) ∧
        keys t = (if p.segment ∈ keys a then keys a else keys a ++ [p.segment]) ∧
        (∀ k, k ≠ p.segment → t.segments.filter (fun g => g.key = k) = a.segments.filter fun g => g.key = k) ∧
        t.feeApplied = (if first then fee else a.feeApplied) ∧
        t.total = min limit (min limit (a.total + price) + if first then fee * 10000 else 0) ∧
        (t.tariffFault = true ↔ a.tariffFault = true ∨ isTariffFault p.outcome = true) ∧
        t = { a with
              segments := t.segments, energy := t.energy, feeApplied := t.feeApplied, total := t.total
              saturated := t.saturated, tariffFault := t.tariffFault })

/-- R166 and R167: a completed dwell minute within the grace is free; a chargeable one is charged in full below the occupancy
cap, and at the cap is not counted and stops occupancy. Counts past their range are free values (assumption log 3). -/
def Obligations.DwellMinuteIsCharged : Prop :=
  ∀ (im : Image) (s : State) (o : Outlet) (b : Bank) (bank : BankContents), s.configured = .running im →
    fitted im o = true → (s.out o).osc.state = .dwell → (s.out o).acc.stopped = false →
    (s.out o).tru.binding = some b → s.tru.bank b = some bank →
    (s.out o).acc.dwellMinutes < 71582 → (s.out o).acc.occupancyMinutes < 4294967295 →
    let a := (s.out o).acc
    let n := a.dwellMinutes + 1
    let cap := (s.out o).osc.header.hold * 10000
    let fee := bank.occupancyFee.toNat * 10000
    let counted := { a with dwellMinutes := n, dwellClock := 60000 * n }
    let total := min 1099511627775 (a.total + fee)
    let becomes := fun x : Accounts => exec (.dwellMinute o) s = .next (s.modOut o fun u => { u with acc := x })
    (n ≤ bank.grace.toNat → becomes counted) ∧
    (bank.grace.toNat < n → cap ≤ a.total → becomes { counted with capped := true, stopped := true }) ∧
    (bank.grace.toNat < n → a.total < cap →
      becomes
        { counted with
          occupancyMinutes := a.occupancyMinutes + 1
          occupancyAmount := min 1099511627775 (a.occupancyAmount + fee)
          total := total
          saturated := a.saturated || decide (1099511627775 < a.total + fee) ||
            decide (1099511627775 < a.occupancyAmount + fee)
          capped := a.capped || decide (cap ≤ total)
          stopped := decide (cap ≤ total) })

-- The share line and the roster.

/-- R9 with R2, R4 and R5: with the slot DUE, the transmitter ON and the line idle, the frame of the slot's kind begins with the values as
they are. R4, R29 and R70: what those values are. R8: a DEFERRED slot becomes DUE at its mark; and an event that changes an announced
value so that it differs from the reference copy makes an EMPTY slot DEFERRED to one quarter period after the last completion, or DUE
where that is no more to come, while no other state of the slot changes, nor any in the LEAVE wait or while BARRED; values that equal the
reference copy update nothing. That a DEFERRED slot becomes DUE while RESTING too, and that one hand-over and one rise evaluation are one
update each, is the model's reading of R11, R47 and R78 (assumption log 16). -/
def Obligations.AttemptStartSendsTheDueFrame : Prop :=
  (∀ (im : Image) (s : State), s.configured = .running im →
    (∀ kind, s.slc.slot = .due kind → s.slc.tx = .on → s.slc.lineIdle = true →
      let frame := match kind with
        | .announce => OwnFrame.announce s.slc.sequence (announced im s)
        | .leave => OwnFrame.leave s.slc.sequence
      exec .attemptStart s =
        .next { s with
          slc := { s.slc with
            slot := .sending frame, lineIdle := false, receiver := .quiet
            drive := false :: stuffed (bitsOf (frameBytes im.stationId frame)) ++ [true, true] } }) ∧
    (∀ mark, s.slc.slot = .deferred mark →
      exec .quarterPeriodMark s = .next { s with slc.slot := .due .announce })) ∧
  (∀ (im : Image) (s : State),
    let v := announced im s
    let a := s.outA.grl
    let b := s.outB.grl
    let claim := fun u : OutletState =>
      let weight := match u.osc.header.tier with
        | 0 => im.weight0
        | 1 => im.weight1
        | 2 => im.weight2
        | _ => im.weight3
      if u.osc.state = .dispensing then Claim.mk true u.share.split weight false
      else if u.osc.state = .parked then ⟨true, 0, weight, true⟩
      else ⟨false, 0, 1, false⟩
    v.mode = s.prs.mode ∧ v.limit = im.limit ∧ v.granted = a.inEffect + b.inEffect ∧
      v.intended = max a.inEffect (a.pending.getD 0) + max b.inEffect (b.pending.getD 0) ∧
      v.claimA = claim s.outA ∧ v.claimB = claim s.outB ∧
      ∀ n, n < 32 → (v.heard.getLsbD n = true ↔ ∃ e ∈ s.prs.roster, e.fresh = true ∧ e.id = n)) ∧
  (∀ (im : Image) (before : Announced) (s : State),
    let v := announced im s
    let quarter := im.sharePeriod / 4
    let updates := v ≠ before ∧ s.slc.reference ≠ some v ∧ s.slc.slot = .empty ∧ s.slc.leaveWait = false ∧ s.slc.tx ≠ .barred
    (¬updates → noteUpdate im before s = s) ∧
      (updates → (∀ done, s.slc.lastDone = some done → s.now < done + quarter →
          noteUpdate im before s = { s with slc.slot := .deferred (done + quarter) }) ∧
        ((∀ done, s.slc.lastDone = some done → done + quarter ≤ s.now) →
          noteUpdate im before s = { s with slc.slot := .due .announce }))) ∧
  ∀ (im : Image) (c : Instr) (s t : State), s.configured = .running im → t.configured = .running im → exec c s = .next t →
    (s.slc.tx = .barred → s.slc.slot = .empty) → t.slc.leaveWait = s.slc.leaveWait →
    (t.slc.tx = .barred → s.slc.tx = .barred) →
    c ∉ [.sharePeriodTick, .quarterPeriodMark, .attemptStart, .arbitrationLoss, .bitError, .ownFrameCompletion true,
      .ownFrameCompletion false] →
    let quarter := im.sharePeriod / 4
    let owed : Slot := match s.slc.lastDone with
      | some done => if s.now < done + quarter then .deferred (done + quarter) else .due .announce
      | none => .due .announce
    (s.slc.slot ≠ .empty ∨ s.slc.leaveWait = true ∨ s.slc.tx = .barred → t.slc.slot = s.slc.slot) ∧
      (s.slc.slot = .empty → s.slc.leaveWait = false → s.slc.tx ≠ .barred →
        (t.slc.slot = .empty ∨ t.slc.slot = owed) ∧
          (announced im t ≠ announced im s → s.slc.reference ≠ some (announced im t) → t.slc.slot = owed))

/-- R3 and R14: a lost arbitration is counted, the frame is due again without its tick-owed mark, and the winner's frame is
received. R12, R13 and R35: a bit error drives the abort pattern, is counted and leaves the frame due; the sixteenth in a row
puts the transmitter to rest for 1000 ms with the slot still DUE and the mode evaluated, and the end of the rest takes it back ON with the
run cleared and the mode evaluated. R20: in the LEAVE wait, before its timer has run out, a frame lost or aborted, an ANNOUNCE too, leaves
the slot DUE for the LEAVE, and the sixteenth bit error begins the reinitialisation, whose values without a rule are the model's choices
(assumption logs 5 to 8). -/
def Obligations.LostAndAbortedFramesStayDue : Prop :=
  (∀ (im : Image) (s : State) (frame : OwnFrame), s.configured = .running im → s.slc.slot = .sending frame →
      s.slc.leaveWait = false ∨ (s.slc.leaveExpired = false ∧ s.slc.tx = .on) →
      exec .arbitrationLoss s =
        .next { s with
          slc := { s.slc with
            arbitrationLosses := min 65535 (s.slc.arbitrationLosses + 1), tickOwed := false, receiver := .receiving, drive := []
            slot := .due (if s.slc.leaveWait then .leave else frameKind frame) } }) ∧
  (∀ (im : Image) (s : State), s.configured = .running im →
      let evaluated := fun u t : State =>
        t.prs = (evaluateMode im u).prs ∧ t.slc = u.slc ∧ FlagsKept u t ∧
          (t.flagSet .lineMode = true ↔ s.flagSet .lineMode = true ∨ t.prs.mode ≠ s.prs.mode) ∧
          Shared { u with prs := t.prs, hpt := { u.hpt with flags := t.hpt.flags } } t
      (∀ frame, s.slc.slot = .sending frame →
        let kind := if s.slc.leaveWait then FrameKind.leave else frameKind frame
        let slc := { s.slc with
          bitErrors := min 65535 (s.slc.bitErrors + 1), bitErrorRun := min 16 (s.slc.bitErrorRun + 1)
          slot := .due kind, tickOwed := false, receiver := .ignoring, drive := List.replicate 6 false }
        (s.slc.bitErrorRun < 15 → s.slc.leaveWait = false ∨ (s.slc.leaveExpired = false ∧ s.slc.tx = .on) →
          exec .bitError s = .next { s with slc := slc }) ∧
        (15 ≤ s.slc.bitErrorRun → s.slc.leaveWait = false →
          ∃ t, exec .bitError s = .next t ∧
            evaluated { s with slc := { slc with tx := .resting, restTimer := some (s.now + 1000) } } t ∧
            t.prs.mode = if s.prs.nEff = 1 then .joined else .isolated) ∧
        (15 ≤ s.slc.bitErrorRun → s.slc.leaveWait = true →
          ∃ t, exec .bitError s = .next t ∧ Reinitialised (List.replicate 6 false) s t)) ∧
      (s.slc.tx = .resting → s.slc.restTimer.isSome = true →
        let u := { s with slc := { s.slc with tx := .on, restTimer := none, bitErrorRun := 0 } }
        ∃ t, exec .restTimerExpiry s = .next t ∧ evaluated { u with slc := { u.slc with slot := t.slc.slot } } t ∧
          (s.slc.slot ≠ .empty → t.slc.slot = s.slc.slot)))

/-- R10 with R34: the completion of an own ANNOUNCE advances the sequence, clears the bit error run and the tick-owed mark,
keeps its content as the reference copy, counts it when unacknowledged or resets the ack-silence count, and leaves the slot
DUE, DEFERRED by a quarter period or EMPTY. R39 and R40: at an acknowledged completion the mode is evaluated, and a change of it raises
LINE MODE. -/
def Obligations.OwnAnnounceCompletes : Prop :=
  ∀ (im : Image) (s : State) (n : Byte) (content : Announced), s.configured = .running im →
    s.slc.slot = .sending (.announce n content) →
    let slot := fun t : State =>
      if s.slc.leaveWait then Slot.due .leave
      else if s.slc.tickOwed then .due .announce
      else if announced im t ≠ content then .deferred (s.now + im.sharePeriod / 4)
      else .empty
    let slc := fun t : State =>
      { s.slc with
        sequence := s.slc.sequence + 1, bitErrorRun := 0, receiver := .quiet, drive := [], reference := some content
        lastDone := some s.now, tickOwed := false, slot := slot t }
    exec (.ownFrameCompletion false) s =
        .next { s with slc := { slc s with unacknowledged := min 65535 (s.slc.unacknowledged + 1) } } ∧
      ∃ t, exec (.ownFrameCompletion true) s = .next t ∧ t.slc = slc t ∧
        t.prs = (evaluateMode im { s with prs.ackSilence := 0 }).prs ∧
        (t.flagSet .lineMode = true ↔ s.flagSet .lineMode = true ∨ t.prs.mode ≠ s.prs.mode) ∧
        FlagsKept s t ∧ Shared { s with prs := t.prs, slc := t.slc, hpt := { s.hpt with flags := t.hpt.flags } } t

/-- R1 and R14: a stuff violation is counted and the line then ignored until idle; ten recessive bit times make the line
idle; a dominant bit on an idle line begins a frame that a RUNNING part receives. -/
def Obligations.ReceiverFollowsTheLine : Prop :=
  ∀ s : State,
    (∀ im, s.configured = .running im → sending s = false → s.slc.receiver ≠ .ignoring →
      exec .stuffViolation s =
        .next { s with
          slc := { s.slc with
            abortedSeen := min 65535 (s.slc.abortedSeen + 1), receiver := .ignoring, lineIdle := false, drive := [] } }) ∧
    (sending s = false →
      exec .lineIdle s = .next { s with slc := { s.slc with lineIdle := true, receiver := .quiet, drive := [] } }) ∧
    (∀ im, s.configured = .running im → s.slc.lineIdle = true →
      exec .frameStartBit s = .next { s with slc := { s.slc with lineIdle := false, receiver := .receiving } }) ∧
    ((∀ im, s.configured ≠ .running im) → s.slc.lineIdle = true →
      exec .frameStartBit s = .next { s with slc.lineIdle := false })

/-- R15: a frame with a dominant length mark, a bad check, id 0, a dominant filler or a line mode code of 3 is counted and
discarded, and the line is ignored until it is next idle. R17, R35 and R39: an accepted frame with the own id bars the
transmitter, empties the slot and raises ID CONFLICT, is not acknowledged and not delivered, and makes a station that is not
alone ISOLATED. R20: in the LEAVE wait it begins the reinitialisation, whose values without a rule are the model's choices (assumption
logs 5 to 8). -/
def Obligations.BadAndOwnFramesAreNotDelivered : Prop :=
  (∀ (im : Image) (s : State) (frame : Vector Byte 21) (leave : Vector Byte 4) (mark : Bool), s.configured = .running im →
      sending s = false → s.slc.receiver ≠ .ignoring →
      let bad := fun bytes : List Byte =>
        mark = true ∨ checkGood bytes = false ∨ frameId bytes = 0 ∨ u8At bytes 0 % 4 ≠ 3
      let discarded :=
        { s with
          slc := { s.slc with
            checkErrors := min 65535 (s.slc.checkErrors + 1), receiver := .ignoring, lineIdle := false, drive := [] } }
      (bad frame.toList ∨ u8At frame.toList 2 / 64 = 3 → exec (.announceReceived frame mark) s = .next discarded) ∧
        (bad leave.toList → exec (.leaveReceived leave mark) s = .next discarded)) ∧
  (∀ (im : Image) (s : State) (frame : Vector Byte 21) (leave : Vector Byte 4), s.configured = .running im →
      sending s = false → s.slc.receiver ≠ .ignoring →
      let good := fun bytes : List Byte => checkGood bytes = true ∧ frameId bytes = im.stationId ∧ u8At bytes 0 % 4 = 3
      let barred :=
        { s with
          slc := { s.slc with
            tx := .barred, restTimer := none, slot := .empty, receiver := .quiet, lineIdle := false, drive := [] }
          hpt.flags := s.hpt.flags ||| flagMask .idConflict }
      let result := fun c : Instr =>
        (s.slc.leaveWait = true → ∃ t, exec c s = .next t ∧ Reinitialised [] { s with slc.lineIdle := false } t) ∧
        (s.slc.leaveWait = false → s.slc.tx = .barred → exec c s = .next barred) ∧
        (s.slc.leaveWait = false → s.slc.tx ≠ .barred →
          ∃ t, exec c s = .next t ∧ t.slc = barred.slc ∧ t.prs = (evaluateMode im barred).prs ∧
            t.prs.mode = (if s.prs.nEff = 1 then .joined else .isolated) ∧
            (t.flagSet .lineMode = true ↔ s.flagSet .lineMode = true ∨ t.prs.mode ≠ s.prs.mode) ∧
            FlagsKept barred t ∧ Shared { barred with prs := t.prs, hpt := { barred.hpt with flags := t.hpt.flags } } t)
      im.stationId ≠ 0 →
        (good frame.toList → u8At frame.toList 2 / 64 ≠ 3 → result (.announceReceived frame false)) ∧
          (good leave.toList → result (.leaveReceived leave false)))

/-- R16, R18, R22 to R26, R30 to R34 and R36: an accepted frame of a peer is acknowledged while the transmitter is ON; an
ANNOUNCE creates or refreshes the entry under its id, a LEAVE removes it, no other entry changes, and the effective values
follow the roster. R30 and R33: a creation that raises N_eff above its previous value and above N_site raises ROSTER OVER, and a limit
that differs from L and is not listed is listed, the seventeenth in place of the oldest, and raises LIMIT MISMATCH. R36, R37 and R39: the
heard-since-entry flag is set in ISOLATED, the unheard count is 0 where its condition is false, and then the mode is evaluated. -/
def Obligations.PeerFramesChangeTheirEntry : Prop :=
  ∀ (im : Image) (s : State) (frame : Vector Byte 21) (leave : Vector Byte 4), s.configured = .running im →
    sending s = false → s.slc.receiver ≠ .ignoring →
    let good := fun bytes : List Byte =>
      checkGood bytes = true ∧ frameId bytes ≠ 0 ∧ frameId bytes ≠ im.stationId ∧ u8At bytes 0 % 4 = 3
    let delivered := fun (id : Nat) (t : State) =>
      (∀ j, j ≠ id → entryOf t.prs.roster j = entryOf s.prs.roster j) ∧
        t.prs.nEff = max im.nSite (1 + t.prs.roster.length) ∧
        t.prs.unseen = t.prs.nEff - 1 - t.prs.roster.length ∧ t.prs.lEff = effectiveLimit im t.prs.roster ∧
        t.prs.peerSilence = 0 ∧ t.prs.ackSilence = s.prs.ackSilence ∧
        (let unheard := ∃ e ∈ t.prs.roster, e.fresh = true ∧ 2 ≤ e.freshRun ∧ e.mode ≠ .isolated ∧
            e.heard.getLsbD im.stationId = false
          ∀ count, (unheard → count = s.prs.unheard) → (¬unheard → count = 0) →
            t.prs =
              (evaluateMode im { s with prs := { t.prs with
                mode := s.prs.mode, unheard := count
                heardSinceEntry := s.prs.heardSinceEntry || decide (s.prs.mode = .isolated) } }).prs) ∧
        (t.flagSet .lineMode = true ↔ s.flagSet .lineMode = true ∨ t.prs.mode ≠ s.prs.mode) ∧ FlagsKept s t ∧
        Shared
          { s with
            prs := t.prs
            slc := { s.slc with receiver := .quiet, lineIdle := false, drive := if s.slc.tx = .on then [false] else [] }
            hpt := { s.hpt with flags := t.hpt.flags } } t
    (∀ c, good frame.toList → receivedAnnounce frame.toList = some c →
      let id := frameId frame.toList
      ∃ t, exec (.announceReceived frame false) s = .next t ∧ delivered id t ∧
        (let listed := c.limit ≠ im.limit ∧ c.limit ∉ s.prs.mismatches
          let overfull := entryOf s.prs.roster id = none ∧ s.prs.nEff < t.prs.nEff ∧ im.nSite < t.prs.nEff
          t.prs.mismatches =
              (if listed then (if s.prs.mismatches.length < 16 then s.prs.mismatches else s.prs.mismatches.tail) ++ [c.limit]
                else s.prs.mismatches) ∧
            (t.flagSet .limitMismatch = true ↔ s.flagSet .limitMismatch = true ∨ listed) ∧
            (t.flagSet .rosterOver = true ↔ s.flagSet .rosterOver = true ∨ overfull)) ∧
        (entryOf s.prs.roster id = none →
          entryOf t.prs.roster id =
            some ⟨id, true, 0, 1, frame[1], 0, c.claimA, c.claimB, c.granted, c.intended, c.limit, c.heard, c.mode⟩) ∧
        ∀ e, entryOf s.prs.roster id = some e →
          entryOf t.prs.roster id =
            some ⟨id, true, 0, if e.fresh then min 15 (e.freshRun + 1) else 1, frame[1],
              min 255 (e.missed + ((frame[1] - e.lastSequence).toNat - 1)), c.claimA, c.claimB, c.granted, c.intended,
              c.limit, c.heard, c.mode⟩) ∧
    (good leave.toList →
      ∃ t, exec (.leaveReceived leave false) s = .next t ∧ delivered (frameId leave.toList) t ∧
        entryOf t.prs.roster (frameId leave.toList) = none ∧ t.prs.mismatches = s.prs.mismatches ∧
        t.flagSet .limitMismatch = s.flagSet .limitMismatch ∧ t.flagSet .rosterOver = s.flagSet .rosterOver)

/-- R7, R8, R27, R34 and R42: the share-period tick starts the next period, owes an ANNOUNCE, ages every entry by one
(removed at the lapse count, STALE at the stale count), works the effective values anew, raises the two silence counts, and then the
unheard count where its condition holds in JOINED (R37), and evaluates the mode (R39). The ANNOUNCE takes the place of no LEAVE: a slot
that was DUE stays as it was. -/
def Obligations.SharePeriodTickAgesTheRoster : Prop :=
  ∀ (im : Image) (s : State), s.configured = .running im →
    let aged := fun e : Entry =>
      if e.age + 1 = im.lapseCount then none
      else if e.fresh = true ∧ e.age + 1 = im.staleCount then some { e with age := e.age + 1, fresh := false, freshRun := 0 }
      else some { e with age := e.age + 1 }
    let owes := s.slc.leaveWait = false ∧ s.slc.tx ≠ .barred
    ∃ t, exec .sharePeriodTick s = .next t ∧ t.slc.shareTick = some (s.now + im.sharePeriod) ∧
      t.prs.roster = s.prs.roster.filterMap aged ∧ t.prs.nEff = max im.nSite (1 + t.prs.roster.length) ∧
      t.prs.unseen = t.prs.nEff - 1 - t.prs.roster.length ∧ t.prs.lEff = effectiveLimit im t.prs.roster ∧
      t.prs.peerSilence = min im.isolationCount (s.prs.peerSilence + 1) ∧
      t.prs.ackSilence = min im.isolationCount (s.prs.ackSilence + 1) ∧ t.prs.mismatches = s.prs.mismatches ∧
      (∀ frame, s.slc.slot = .sending frame → t.slc.slot = .sending frame ∧ (owes → t.slc.tickOwed = true)) ∧
      (∀ kind, s.slc.slot = .due kind → t.slc.slot = .due kind) ∧
      (owes → s.slc.slot = .empty ∨ (∃ mark, s.slc.slot = .deferred mark) → t.slc.slot = .due .announce) ∧
      (¬owes ∨ sending s = false → t.slc.tickOwed = s.slc.tickOwed) ∧ (¬owes → t.slc.slot = s.slc.slot) ∧
      (let unheard := ∃ e ∈ t.prs.roster, e.fresh = true ∧ 2 ≤ e.freshRun ∧ e.mode ≠ .isolated ∧
          e.heard.getLsbD im.stationId = false
        ∀ count, (¬unheard → count = 0) → (unheard → s.prs.mode ≠ .joined → count = s.prs.unheard) →
          (unheard → s.prs.mode = .joined → count = min im.isolationCount (s.prs.unheard + 1)) →
          t.prs = (evaluateMode im { s with prs := { t.prs with
            mode := s.prs.mode, unheard := count, heardSinceEntry := s.prs.heardSinceEntry } }).prs) ∧
      (t.flagSet .lineMode = true ↔ s.flagSet .lineMode = true ∨ t.prs.mode ≠ s.prs.mode) ∧ FlagsKept s t ∧
      Shared
        { s with
          prs := t.prs
          slc := { s.slc with slot := t.slc.slot, tickOwed := t.slc.tickOwed, shareTick := t.slc.shareTick }
          hpt := { s.hpt with flags := t.hpt.flags } } t

/-- R35, R37, R39 and R40: the first row of R39 whose condition holds decides the mode; a change raises LINE MODE, and an
entry to ISOLATED clears the heard-since-entry flag and the unheard count; nothing else changes. -/
def Obligations.ModeEvaluationTakesTheFirstRow : Prop :=
  ∀ (im : Image) (s : State),
    let t := evaluateMode im s
    let cut := im.isolationCount ≤ s.prs.peerSilence ∨ im.isolationCount ≤ s.prs.ackSilence ∨ s.slc.tx ≠ .on
    let unheard := ∃ e ∈ s.prs.roster, e.fresh = true ∧ 2 ≤ e.freshRun ∧ e.mode ≠ .isolated ∧
      e.heard.getLsbD im.stationId = false
    (s.prs.nEff = 1 → t.prs.mode = .joined) ∧
      (s.prs.nEff ≠ 1 → cut → t.prs.mode = .isolated) ∧
      (s.prs.nEff ≠ 1 → ¬cut → s.prs.mode = .isolated →
        t.prs.mode = if s.prs.heardSinceEntry then .joined else .isolated) ∧
      (s.prs.nEff ≠ 1 → ¬cut → s.prs.mode = .halfHeard → (t.prs.mode = .halfHeard ↔ unheard) ∧ t.prs.mode ≠ .isolated) ∧
      (s.prs.nEff ≠ 1 → ¬cut → s.prs.mode = .joined →
        t.prs.mode = if im.isolationCount ≤ s.prs.unheard then .halfHeard else .joined) ∧
      (t.prs.mode = s.prs.mode → t = s) ∧
      (t.prs.mode ≠ s.prs.mode →
        t = { s with
              prs := { s.prs with
                mode := t.prs.mode
                heardSinceEntry := if t.prs.mode = .isolated then false else s.prs.heardSinceEntry
                unheard := if t.prs.mode = .isolated then 0 else s.prs.unheard }
              hpt.flags := s.hpt.flags ||| flagMask .lineMode })

-- Encodings.

/-- R180 with Tables 22 and 23: the message of every host command spells that command, whatever fill follows it. -/
def Obligations.MessagesSpellTheirCommands : Prop :=
  ∀ (c : Instr) (message fill : List Byte), messageOf c = some message → commandOf (message ++ fill) = c

/-- R3 to R6, R15 and R18 with Tables 20 and 21: a sent ANNOUNCE or LEAVE is received as what was sent, with its id,
sequence, kind and a good check, when its values are within the ranges of R4. R18 and Table 20, for any 21 bytes at all: a line mode code
of 3 names no mode, and otherwise a claim's demand above 6000 is delivered as 6000 and its weight of 0 as 1, a claim whose present flag is
clear as absent with demand 0, weight 1 and not parked, the heard set without a membership of id 0, and every other field as carried. -/
def Obligations.FramesAreReceivedAsSent : Prop :=
  (∀ frame : Vector Byte 21,
    let bytes := frame.toList
    let code := u8At bytes 2 / 64
    let claim := fun i : Nat =>
      let flags := bytes.getD (i + 2) 0
      if flags.getLsbD 7 = true then
        Claim.mk true (min 6000 (u16At bytes i)) (max 1 (flags.toNat % 16)) (flags.getLsbD 6)
      else ⟨false, 0, 1, false⟩
    (code = 3 → receivedAnnounce bytes = none) ∧
      (code ≠ 3 →
        ∃ c, receivedAnnounce bytes = some c ∧ c.mode = [LineMode.joined, .halfHeard, .isolated].getD code .joined ∧
          c.limit = u16At bytes 3 ∧ c.granted = u16At bytes 5 ∧ c.intended = u16At bytes 7 ∧
          c.claimA = claim 9 ∧ c.claimB = claim 12 ∧ c.heard.getLsbD 0 = false ∧
          ∀ n, 1 ≤ n → n < 32 → c.heard.getLsbD n = (bytes.getD (18 - n / 8) 0).getLsbD (n % 8))) ∧
  ∀ (id : Nat) (sequence : Byte) (c : Announced), 1 ≤ id → id ≤ 31 → c.limit < 65536 → c.granted < 65536 →
    c.intended < 65536 → c.heard.getLsbD 0 = false →
    (∀ x ∈ [c.claimA, c.claimB], ClaimOk x ∧ (x.present = false → x = ⟨false, 0, 1, false⟩)) →
    let f := announceBytes id sequence c
    let l := leaveBytes id sequence
    (f.length = 21 ∧ checkGood f = true ∧ frameId f = id ∧ fillersRecessive f = true ∧ frameSequence f = sequence ∧
        frameKindBit f = true ∧ receivedAnnounce f = some c) ∧
      l.length = 4 ∧ checkGood l = true ∧ frameId l = id ∧ fillersRecessive l = true ∧ frameSequence l = sequence ∧
        frameKindBit l = false

/-- R2 and R14: a receiver's removal of stuff bits gives back the content, and a stuffed region after its dominant start bit
never holds five equal bits in a row. -/
def Obligations.StuffingIsUndone : Prop :=
  ∀ content : List Bool,
    unstuffed (stuffed content) = some content ∧
      ∀ level : Bool, ¬List.replicate 5 level <:+: (false :: stuffed content)

/-- R141, R142 and R144 with Tables 25 and 26: the 57 bytes that TARIFF READ gives for a bank are an image that loads the
same bank. -/
def Obligations.BankImagesReadAsLoaded : Prop :=
  ∀ b : BankContents, (bankBytes b).length = 57 ∧ bankItems (bankBytes b) = b
end

