-- ==== Sys2Proof/Laws/State.lean ====
section
/-! SUPPORT. The small lemmas of the state's updates: one per field per shared update, so that no later proof unfolds a record. -/

namespace Sys2Proof.Machine

@[simp] theorem out_a (s : State) : s.out .a = s.outA := rfl
@[simp] theorem out_b (s : State) : s.out .b = s.outB := rfl
@[simp] theorem modOut_a (s : State) (f : OutletState → OutletState) : s.modOut .a f = { s with outA := f s.outA } := rfl
@[simp] theorem modOut_b (s : State) (f : OutletState → OutletState) : s.modOut .b f = { s with outB := f s.outB } := rfl
@[simp] theorem setOut_a (s : State) (x : OutletState) : s.setOut .a x = { s with outA := x } := rfl
@[simp] theorem setOut_b (s : State) (x : OutletState) : s.setOut .b x = { s with outB := x } := rfl

theorem out_modOut (s : State) (o : Outlet) (f : OutletState → OutletState) : (s.modOut o f).out o = f (s.out o) := by
  cases o <;> rfl
theorem out_modOut_other (s : State) (o : Outlet) (f : OutletState → OutletState) :
    (s.modOut o f).out (otherOutlet o) = s.out (otherOutlet o) := by
  cases o <;> rfl

@[simp] theorem modOut_pending (s : State) (o : Outlet) (f : OutletState → OutletState) : (s.modOut o f).pending = s.pending := by cases o <;> rfl
@[simp] theorem modOut_draws (s : State) (o : Outlet) (f : OutletState → OutletState) : (s.modOut o f).draws = s.draws := by cases o <;> rfl
@[simp] theorem modOut_now (s : State) (o : Outlet) (f : OutletState → OutletState) : (s.modOut o f).now = s.now := by cases o <;> rfl
@[simp] theorem modOut_phase (s : State) (o : Outlet) (f : OutletState → OutletState) : (s.modOut o f).phase = s.phase := by cases o <;> rfl
@[simp] theorem modOut_clockTickDue (s : State) (o : Outlet) (f : OutletState → OutletState) : (s.modOut o f).clockTickDue = s.clockTickDue := by cases o <;> rfl
@[simp] theorem modOut_resetLow (s : State) (o : Outlet) (f : OutletState → OutletState) : (s.modOut o f).resetLow = s.resetLow := by cases o <;> rfl
@[simp] theorem modOut_configured (s : State) (o : Outlet) (f : OutletState → OutletState) : (s.modOut o f).configured = s.configured := by cases o <;> rfl
@[simp] theorem modOut_eStop (s : State) (o : Outlet) (f : OutletState → OutletState) : (s.modOut o f).eStop = s.eStop := by cases o <;> rfl
@[simp] theorem modOut_slc (s : State) (o : Outlet) (f : OutletState → OutletState) : (s.modOut o f).slc = s.slc := by cases o <;> rfl
@[simp] theorem modOut_prs (s : State) (o : Outlet) (f : OutletState → OutletState) : (s.modOut o f).prs = s.prs := by cases o <;> rfl
@[simp] theorem modOut_shc (s : State) (o : Outlet) (f : OutletState → OutletState) : (s.modOut o f).shc = s.shc := by cases o <;> rfl
@[simp] theorem modOut_grl (s : State) (o : Outlet) (f : OutletState → OutletState) : (s.modOut o f).grl = s.grl := by cases o <;> rfl
@[simp] theorem modOut_tru (s : State) (o : Outlet) (f : OutletState → OutletState) : (s.modOut o f).tru = s.tru := by cases o <;> rfl
@[simp] theorem modOut_stu (s : State) (o : Outlet) (f : OutletState → OutletState) : (s.modOut o f).stu = s.stu := by cases o <;> rfl
@[simp] theorem modOut_hpt (s : State) (o : Outlet) (f : OutletState → OutletState) : (s.modOut o f).hpt = s.hpt := by cases o <;> rfl

@[simp] theorem setOut_pending (s : State) (o : Outlet) (x : OutletState) : (s.setOut o x).pending = s.pending := by cases o <;> rfl
@[simp] theorem setOut_draws (s : State) (o : Outlet) (x : OutletState) : (s.setOut o x).draws = s.draws := by cases o <;> rfl
@[simp] theorem setOut_now (s : State) (o : Outlet) (x : OutletState) : (s.setOut o x).now = s.now := by cases o <;> rfl
@[simp] theorem setOut_phase (s : State) (o : Outlet) (x : OutletState) : (s.setOut o x).phase = s.phase := by cases o <;> rfl
@[simp] theorem setOut_clockTickDue (s : State) (o : Outlet) (x : OutletState) : (s.setOut o x).clockTickDue = s.clockTickDue := by cases o <;> rfl
@[simp] theorem setOut_resetLow (s : State) (o : Outlet) (x : OutletState) : (s.setOut o x).resetLow = s.resetLow := by cases o <;> rfl
@[simp] theorem setOut_configured (s : State) (o : Outlet) (x : OutletState) : (s.setOut o x).configured = s.configured := by cases o <;> rfl
@[simp] theorem setOut_eStop (s : State) (o : Outlet) (x : OutletState) : (s.setOut o x).eStop = s.eStop := by cases o <;> rfl
@[simp] theorem setOut_slc (s : State) (o : Outlet) (x : OutletState) : (s.setOut o x).slc = s.slc := by cases o <;> rfl
@[simp] theorem setOut_prs (s : State) (o : Outlet) (x : OutletState) : (s.setOut o x).prs = s.prs := by cases o <;> rfl
@[simp] theorem setOut_shc (s : State) (o : Outlet) (x : OutletState) : (s.setOut o x).shc = s.shc := by cases o <;> rfl
@[simp] theorem setOut_grl (s : State) (o : Outlet) (x : OutletState) : (s.setOut o x).grl = s.grl := by cases o <;> rfl
@[simp] theorem setOut_tru (s : State) (o : Outlet) (x : OutletState) : (s.setOut o x).tru = s.tru := by cases o <;> rfl
@[simp] theorem setOut_stu (s : State) (o : Outlet) (x : OutletState) : (s.setOut o x).stu = s.stu := by cases o <;> rfl
@[simp] theorem setOut_hpt (s : State) (o : Outlet) (x : OutletState) : (s.setOut o x).hpt = s.hpt := by cases o <;> rfl

@[simp] theorem raise_pending (f : EventFlag) (s : State) : (raise f s).pending = s.pending := rfl
@[simp] theorem raise_draws (f : EventFlag) (s : State) : (raise f s).draws = s.draws := rfl
@[simp] theorem raise_now (f : EventFlag) (s : State) : (raise f s).now = s.now := rfl
@[simp] theorem raise_phase (f : EventFlag) (s : State) : (raise f s).phase = s.phase := rfl
@[simp] theorem raise_clockTickDue (f : EventFlag) (s : State) : (raise f s).clockTickDue = s.clockTickDue := rfl
@[simp] theorem raise_resetLow (f : EventFlag) (s : State) : (raise f s).resetLow = s.resetLow := rfl
@[simp] theorem raise_configured (f : EventFlag) (s : State) : (raise f s).configured = s.configured := rfl
@[simp] theorem raise_eStop (f : EventFlag) (s : State) : (raise f s).eStop = s.eStop := rfl
@[simp] theorem raise_slc (f : EventFlag) (s : State) : (raise f s).slc = s.slc := rfl
@[simp] theorem raise_prs (f : EventFlag) (s : State) : (raise f s).prs = s.prs := rfl
@[simp] theorem raise_shc (f : EventFlag) (s : State) : (raise f s).shc = s.shc := rfl
@[simp] theorem raise_grl (f : EventFlag) (s : State) : (raise f s).grl = s.grl := rfl
@[simp] theorem raise_tru (f : EventFlag) (s : State) : (raise f s).tru = s.tru := rfl
@[simp] theorem raise_stu (f : EventFlag) (s : State) : (raise f s).stu = s.stu := rfl
@[simp] theorem raise_outA (f : EventFlag) (s : State) : (raise f s).outA = s.outA := rfl
@[simp] theorem raise_outB (f : EventFlag) (s : State) : (raise f s).outB = s.outB := rfl

@[simp] theorem respond_pending (x : Status) (code : Nat) (p : List Byte) (s : State) : (respond x code p s).pending = s.pending := rfl
@[simp] theorem respond_draws (x : Status) (code : Nat) (p : List Byte) (s : State) : (respond x code p s).draws = s.draws := rfl
@[simp] theorem respond_now (x : Status) (code : Nat) (p : List Byte) (s : State) : (respond x code p s).now = s.now := rfl
@[simp] theorem respond_phase (x : Status) (code : Nat) (p : List Byte) (s : State) : (respond x code p s).phase = s.phase := rfl
@[simp] theorem respond_clockTickDue (x : Status) (code : Nat) (p : List Byte) (s : State) : (respond x code p s).clockTickDue = s.clockTickDue := rfl
@[simp] theorem respond_resetLow (x : Status) (code : Nat) (p : List Byte) (s : State) : (respond x code p s).resetLow = s.resetLow := rfl
@[simp] theorem respond_configured (x : Status) (code : Nat) (p : List Byte) (s : State) : (respond x code p s).configured = s.configured := rfl
@[simp] theorem respond_eStop (x : Status) (code : Nat) (p : List Byte) (s : State) : (respond x code p s).eStop = s.eStop := rfl
@[simp] theorem respond_slc (x : Status) (code : Nat) (p : List Byte) (s : State) : (respond x code p s).slc = s.slc := rfl
@[simp] theorem respond_prs (x : Status) (code : Nat) (p : List Byte) (s : State) : (respond x code p s).prs = s.prs := rfl
@[simp] theorem respond_shc (x : Status) (code : Nat) (p : List Byte) (s : State) : (respond x code p s).shc = s.shc := rfl
@[simp] theorem respond_grl (x : Status) (code : Nat) (p : List Byte) (s : State) : (respond x code p s).grl = s.grl := rfl
@[simp] theorem respond_tru (x : Status) (code : Nat) (p : List Byte) (s : State) : (respond x code p s).tru = s.tru := rfl
@[simp] theorem respond_stu (x : Status) (code : Nat) (p : List Byte) (s : State) : (respond x code p s).stu = s.stu := rfl
@[simp] theorem respond_outA (x : Status) (code : Nat) (p : List Byte) (s : State) : (respond x code p s).outA = s.outA := rfl
@[simp] theorem respond_outB (x : Status) (code : Nat) (p : List Byte) (s : State) : (respond x code p s).outB = s.outB := rfl

@[simp] theorem refuse_pending (x : Status) (code : Nat) (s : State) : (refuse x code s).pending = s.pending := rfl
@[simp] theorem refuse_draws (x : Status) (code : Nat) (s : State) : (refuse x code s).draws = s.draws := rfl
@[simp] theorem refuse_now (x : Status) (code : Nat) (s : State) : (refuse x code s).now = s.now := rfl
@[simp] theorem refuse_phase (x : Status) (code : Nat) (s : State) : (refuse x code s).phase = s.phase := rfl
@[simp] theorem refuse_clockTickDue (x : Status) (code : Nat) (s : State) : (refuse x code s).clockTickDue = s.clockTickDue := rfl
@[simp] theorem refuse_resetLow (x : Status) (code : Nat) (s : State) : (refuse x code s).resetLow = s.resetLow := rfl
@[simp] theorem refuse_configured (x : Status) (code : Nat) (s : State) : (refuse x code s).configured = s.configured := rfl
@[simp] theorem refuse_eStop (x : Status) (code : Nat) (s : State) : (refuse x code s).eStop = s.eStop := rfl
@[simp] theorem refuse_slc (x : Status) (code : Nat) (s : State) : (refuse x code s).slc = s.slc := rfl
@[simp] theorem refuse_prs (x : Status) (code : Nat) (s : State) : (refuse x code s).prs = s.prs := rfl
@[simp] theorem refuse_shc (x : Status) (code : Nat) (s : State) : (refuse x code s).shc = s.shc := rfl
@[simp] theorem refuse_grl (x : Status) (code : Nat) (s : State) : (refuse x code s).grl = s.grl := rfl
@[simp] theorem refuse_tru (x : Status) (code : Nat) (s : State) : (refuse x code s).tru = s.tru := rfl
@[simp] theorem refuse_stu (x : Status) (code : Nat) (s : State) : (refuse x code s).stu = s.stu := rfl
@[simp] theorem refuse_outA (x : Status) (code : Nat) (s : State) : (refuse x code s).outA = s.outA := rfl
@[simp] theorem refuse_outB (x : Status) (code : Nat) (s : State) : (refuse x code s).outB = s.outB := rfl

@[simp] theorem setSession_pending (o : Outlet) (x : Session) (s : State) : (setSession o x s).pending = s.pending := by cases o <;> rfl
@[simp] theorem setSession_draws (o : Outlet) (x : Session) (s : State) : (setSession o x s).draws = s.draws := by cases o <;> rfl
@[simp] theorem setSession_now (o : Outlet) (x : Session) (s : State) : (setSession o x s).now = s.now := by cases o <;> rfl
@[simp] theorem setSession_phase (o : Outlet) (x : Session) (s : State) : (setSession o x s).phase = s.phase := by cases o <;> rfl
@[simp] theorem setSession_clockTickDue (o : Outlet) (x : Session) (s : State) : (setSession o x s).clockTickDue = s.clockTickDue := by cases o <;> rfl
@[simp] theorem setSession_resetLow (o : Outlet) (x : Session) (s : State) : (setSession o x s).resetLow = s.resetLow := by cases o <;> rfl
@[simp] theorem setSession_configured (o : Outlet) (x : Session) (s : State) : (setSession o x s).configured = s.configured := by cases o <;> rfl
@[simp] theorem setSession_eStop (o : Outlet) (x : Session) (s : State) : (setSession o x s).eStop = s.eStop := by cases o <;> rfl
@[simp] theorem setSession_slc (o : Outlet) (x : Session) (s : State) : (setSession o x s).slc = s.slc := by cases o <;> rfl
@[simp] theorem setSession_prs (o : Outlet) (x : Session) (s : State) : (setSession o x s).prs = s.prs := by cases o <;> rfl
@[simp] theorem setSession_shc (o : Outlet) (x : Session) (s : State) : (setSession o x s).shc = s.shc := by cases o <;> rfl
@[simp] theorem setSession_grl (o : Outlet) (x : Session) (s : State) : (setSession o x s).grl = s.grl := by cases o <;> rfl
@[simp] theorem setSession_tru (o : Outlet) (x : Session) (s : State) : (setSession o x s).tru = s.tru := by cases o <;> rfl
@[simp] theorem setSession_stu (o : Outlet) (x : Session) (s : State) : (setSession o x s).stu = s.stu := by cases o <;> rfl

@[simp] theorem raise_out (f : EventFlag) (s : State) (o : Outlet) : (raise f s).out o = s.out o := by cases o <;> rfl
@[simp] theorem respond_out (x : Status) (code : Nat) (p : List Byte) (s : State) (o : Outlet) :
    (respond x code p s).out o = s.out o := by cases o <;> rfl
@[simp] theorem raise_hpt (f : EventFlag) (s : State) :
    (raise f s).hpt = { s.hpt with flags := s.hpt.flags ||| flagMask f } := rfl
@[simp] theorem respond_hpt (x : Status) (code : Nat) (p : List Byte) (s : State) :
    (respond x code p s).hpt = { s.hpt with held := ⟨x, BitVec.ofNat 8 code, p⟩ } := rfl
theorem setSession_out (o : Outlet) (x : Session) (s : State) :
    (setSession o x s).out o = { s.out o with osc.state := x } := by cases o <;> rfl
theorem setSession_out_other (o : Outlet) (x : Session) (s : State) :
    (setSession o x s).out (otherOutlet o) = s.out (otherOutlet o) := by cases o <;> rfl

/-- A word sent changes the word on SETPT and nothing else (R71). -/
theorem sendWord_keeps (g : Grl) :
    sendWord g = { g with word := (sendWord g).word, wordAgain := (sendWord g).wordAgain, wordLeft := (sendWord g).wordLeft } := by
  cases g with
  | mk _ _ _ _ _ _ _ _ _ w _ _ _ => cases w <;> rfl

theorem sendWord_figures (g : Grl) :
    sendWord g = { sendWord g with parkedMs := g.parkedMs, earlierRise := g.earlierRise } := by
  unfold sendWord; split <;> rfl

@[simp] theorem sendWord_target (g : Grl) : (sendWord g).target = g.target := by rw [sendWord_keeps]
@[simp] theorem sendWord_commanded (g : Grl) : (sendWord g).commanded = g.commanded := by rw [sendWord_keeps]
@[simp] theorem sendWord_inEffect (g : Grl) : (sendWord g).inEffect = g.inEffect := by rw [sendWord_keeps]
@[simp] theorem sendWord_pending (g : Grl) : (sendWord g).pending = g.pending := by rw [sendWord_keeps]
@[simp] theorem sendWord_unconfirmed (g : Grl) : (sendWord g).unconfirmed = g.unconfirmed := by rw [sendWord_keeps]
@[simp] theorem sendWord_confirmTimer (g : Grl) : (sendWord g).confirmTimer = g.confirmTimer := by rw [sendWord_keeps]
@[simp] theorem sendWord_parkHold (g : Grl) : (sendWord g).parkHold = g.parkHold := by rw [sendWord_keeps]
@[simp] theorem sendWord_peak (g : Grl) : (sendWord g).peak = g.peak := by rw [sendWord_keeps]
@[simp] theorem sendWord_parkedMs (g : Grl) : (sendWord g).parkedMs = g.parkedMs := by rw [sendWord_keeps]
@[simp] theorem sendWord_earlierRise (g : Grl) : (sendWord g).earlierRise = g.earlierRise := by rw [sendWord_keeps]
@[simp] theorem beginWord_target (g : Grl) : (beginWord g).target = g.target := rfl
@[simp] theorem beginWord_commanded (g : Grl) : (beginWord g).commanded = g.commanded := rfl
@[simp] theorem beginWord_inEffect (g : Grl) : (beginWord g).inEffect = g.inEffect := rfl
@[simp] theorem beginWord_pending (g : Grl) : (beginWord g).pending = g.pending := rfl
@[simp] theorem beginWord_unconfirmed (g : Grl) : (beginWord g).unconfirmed = g.unconfirmed := rfl
@[simp] theorem beginWord_confirmTimer (g : Grl) : (beginWord g).confirmTimer = g.confirmTimer := rfl
@[simp] theorem beginWord_parkHold (g : Grl) : (beginWord g).parkHold = g.parkHold := rfl
@[simp] theorem beginWord_peak (g : Grl) : (beginWord g).peak = g.peak := rfl
@[simp] theorem beginWord_parkedMs (g : Grl) : (beginWord g).parkedMs = g.parkedMs := rfl
@[simp] theorem beginWord_earlierRise (g : Grl) : (beginWord g).earlierRise = g.earlierRise := rfl

/-- The announced-value update touches the transmit slot alone (R8). -/
theorem noteUpdate_keeps (im : Image) (b : Announced) (s : State) :
    noteUpdate im b s = { s with slc.slot := (noteUpdate im b s).slc.slot } := by
  unfold noteUpdate; split <;> rfl

@[simp] theorem noteUpdate_pending (im : Image) (b : Announced) (s : State) : (noteUpdate im b s).pending = s.pending := by rw [noteUpdate_keeps]
@[simp] theorem noteUpdate_draws (im : Image) (b : Announced) (s : State) : (noteUpdate im b s).draws = s.draws := by rw [noteUpdate_keeps]
@[simp] theorem noteUpdate_now (im : Image) (b : Announced) (s : State) : (noteUpdate im b s).now = s.now := by rw [noteUpdate_keeps]
@[simp] theorem noteUpdate_phase (im : Image) (b : Announced) (s : State) : (noteUpdate im b s).phase = s.phase := by rw [noteUpdate_keeps]
@[simp] theorem noteUpdate_clockTickDue (im : Image) (b : Announced) (s : State) : (noteUpdate im b s).clockTickDue = s.clockTickDue := by rw [noteUpdate_keeps]
@[simp] theorem noteUpdate_resetLow (im : Image) (b : Announced) (s : State) : (noteUpdate im b s).resetLow = s.resetLow := by rw [noteUpdate_keeps]
@[simp] theorem noteUpdate_configured (im : Image) (b : Announced) (s : State) : (noteUpdate im b s).configured = s.configured := by rw [noteUpdate_keeps]
@[simp] theorem noteUpdate_eStop (im : Image) (b : Announced) (s : State) : (noteUpdate im b s).eStop = s.eStop := by rw [noteUpdate_keeps]
@[simp] theorem noteUpdate_prs (im : Image) (b : Announced) (s : State) : (noteUpdate im b s).prs = s.prs := by rw [noteUpdate_keeps]
@[simp] theorem noteUpdate_shc (im : Image) (b : Announced) (s : State) : (noteUpdate im b s).shc = s.shc := by rw [noteUpdate_keeps]
@[simp] theorem noteUpdate_grl (im : Image) (b : Announced) (s : State) : (noteUpdate im b s).grl = s.grl := by rw [noteUpdate_keeps]
@[simp] theorem noteUpdate_tru (im : Image) (b : Announced) (s : State) : (noteUpdate im b s).tru = s.tru := by rw [noteUpdate_keeps]
@[simp] theorem noteUpdate_stu (im : Image) (b : Announced) (s : State) : (noteUpdate im b s).stu = s.stu := by rw [noteUpdate_keeps]
@[simp] theorem noteUpdate_hpt (im : Image) (b : Announced) (s : State) : (noteUpdate im b s).hpt = s.hpt := by rw [noteUpdate_keeps]
@[simp] theorem noteUpdate_outA (im : Image) (b : Announced) (s : State) : (noteUpdate im b s).outA = s.outA := by rw [noteUpdate_keeps]
@[simp] theorem noteUpdate_outB (im : Image) (b : Announced) (s : State) : (noteUpdate im b s).outB = s.outB := by rw [noteUpdate_keeps]

end Sys2Proof.Machine
end

