-- ==== Sys2Proof/Laws/Computation.lean ====
section
/-! SUPPORT. What a computation with its hand-overs can do (`Shared`): the lemma that later proofs cite instead of unfolding it. -/

namespace Sys2Proof.Machine

theorem ParksOnly.refl (x : Session) : ParksOnly x x := .inl rfl

theorem ParksOnly.trans {x y z : Session} (h : ParksOnly x y) (k : ParksOnly y z) : ParksOnly x z := by
  unfold ParksOnly at *
  rcases h with rfl | ⟨rfl, rfl⟩ | ⟨rfl, rfl⟩ <;> rcases k with h | ⟨h, k⟩ | ⟨h, k⟩ <;> simp_all

theorem FlagsKept.refl (s : State) : FlagsKept s s := BitVec.and_self

theorem FlagsKept.trans {s t u : State} (h : FlagsKept s t) (k : FlagsKept t u) : FlagsKept s u := by
  unfold FlagsKept at *
  rw [← h, BitVec.and_assoc, k]

theorem flagsKept_raise (f : EventFlag) (s : State) : FlagsKept s (raise f s) := by
  unfold FlagsKept
  ext i hi
  simp only [raise_hpt, BitVec.getElem_and, BitVec.getElem_or]
  cases s.hpt.flags[i] <;> rfl

theorem Shared.refl (s : State) : Shared s s := ⟨rfl, .refl _, .refl _, .refl _⟩

theorem Shared.trans {s t u : State} (h : Shared s t) (k : Shared t u) : Shared s u := by
  obtain ⟨h, ha, hb, hf⟩ := h
  obtain ⟨k, ka, kb, kf⟩ := k
  refine ⟨?_, ha.trans ka, hb.trans kb, hf.trans kf⟩
  calc u = sharesOnly t u := k
    _ = sharesOnly (sharesOnly s t) u := by rw [← h]
    _ = sharesOnly s u := rfl

/-- A change of one outlet's grant values that a hand-over may make. -/
theorem shared_modOut (s : State) (o : Outlet) (f : OutletState → OutletState)
    (h : f (s.out o) = shareOnly (s.out o) (f (s.out o)))
    (k : ParksOnly (s.out o).osc.state (f (s.out o)).osc.state) : Shared s (s.modOut o f) := by
  cases o
  · exact ⟨by simp only [modOut_a, sharesOnly]; rw [← show f s.outA = shareOnly s.outA (f s.outA) from h]; rfl, k, .refl _, .refl _⟩
  · exact ⟨by simp only [modOut_b, sharesOnly]; rw [← show f s.outB = shareOnly s.outB (f s.outB) from h]; rfl, .refl _, k, .refl _⟩

theorem shared_compute (im : Image) (s : State) : Shared s (compute im s) := ⟨rfl, .refl _, .refl _, .refl _⟩

theorem shared_noteUpdate (im : Image) (b : Announced) (s : State) : Shared s (noteUpdate im b s) := by
  unfold noteUpdate; split
  · exact ⟨rfl, .refl _, .refl _, .refl _⟩
  · exact .refl _

/-- An effect with its update is within what a computation may do where the effect is (R8). -/
theorem shared_noted (im : Image) (f : State → State) (s : State) (h : Shared s (f s)) : Shared s (noted im f s) :=
  h.trans (shared_noteUpdate im _ _)

theorem shared_decrease (im : Image) (o : Outlet) (t : Nat) (s : State) : Shared s (decrease im o t s) := by
  unfold decrease
  refine shared_modOut s o _ ?_ (.refl _)
  simp only [shareOnly]
  rw [sendWord_keeps]

theorem shared_setPending (o : Outlet) (p : Option Nat) (s : State) : Shared s (setPending o p s) :=
  shared_modOut s o _ rfl (.refl _)

theorem shared_setSession (o : Outlet) (x : Session) (s : State) (h : ParksOnly (s.out o).osc.state x) :
    Shared s (setSession o x s) := by
  cases o
  · exact ⟨rfl, h, .refl _, flagsKept_raise _ _⟩
  · exact ⟨rfl, .refl _, h, flagsKept_raise _ _⟩

theorem shared_park (im : Image) (o : Outlet) (s : State) (h : (s.out o).osc.state = .dispensing) :
    Shared s (park im o s) := by
  unfold park
  refine (shared_setSession o .parked s (.inr (.inl ⟨h, rfl⟩))).trans (.trans ?_ (shared_modOut _ o _ rfl (.refl _)))
  split
  · exact shared_decrease im o 0 _
  · exact .refl _

theorem shared_resume (o : Outlet) (s : State) (h : (s.out o).osc.state = .parked) : Shared s (resume o s) :=
  (shared_setSession o .dispensing s (.inr (.inr ⟨h, rfl⟩))).trans (shared_modOut _ o _ rfl (.refl _))

theorem shared_handOverAt (im : Image) (o : Outlet) (s : State) : Shared s (handOverAt im o s) := by
  unfold handOverAt
  split
  · refine Shared.trans (shared_modOut s o (fun u => { u with grl.target := (s.out o).share.target }) rfl (.refl _)) ?_
    dsimp only
    split
    · rename_i h
      split
      · exact shared_park im o _ h
      split
      · exact shared_decrease im o _ _
      split <;> exact shared_setPending o _ _
    · rename_i h
      split
      · exact shared_resume o _ h
      · exact .refl _
    all_goals exact shared_setPending o _ _
  · exact .refl _

theorem shared_holdRises (im : Image) (s : State) : Shared s (holdRises im s) := by
  unfold holdRises settleRises
  split
  · exact ⟨rfl, .refl _, .refl _, .refl _⟩
  split
  · exact ⟨rfl, .refl _, .refl _, .refl _⟩
  · exact .refl _

theorem shared_handOver (im : Image) (s : State) : Shared s (handOver im s) :=
  ((shared_handOverAt im .a s).trans (shared_handOverAt im .b _)).trans (shared_holdRises im _)

theorem shared_computeOnce (im : Image) (s : State) : Shared s (computeOnce im s) :=
  shared_noted im _ s ((shared_compute im s).trans (shared_handOver im _))

theorem shared_computations (im : Image) (n : Nat) (s : State) : Shared s (computations im n s) := by
  induction n generalizing s with
  | zero => exact .refl _
  | succ n ih =>
    unfold computations
    dsimp only
    split
    · exact shared_computeOnce im s
    · exact (shared_computeOnce im s).trans (ih _)

/-- Everything a computation can do to the state. -/
theorem shared_computation (im : Image) (s : State) : Shared s (computation im s) := shared_computations im 5 s

/-- Everything a triggered computation can add to an event (R46). -/
theorem shared_triggered (im : Image) (before after : State) : Shared after (triggered im before after) :=
  (shared_noteUpdate im _ after).trans (shared_computation im _)

/-- Everything the end of an event at an outlet can add to it (R46). -/
theorem shared_outletEvent (im : Image) (before after : State) : Shared after (outletEvent im before after) := by
  unfold outletEvent
  split
  · exact shared_noteUpdate im _ after
  · exact shared_triggered im before after

end Sys2Proof.Machine
end

