-- ==== Sys2Proof/Laws/Events.lean ====
section
/-! SUPPORT. What the shared operations of an event at one outlet can do (`EventAt`): rises, decreases, trips, confirmations. -/

namespace Sys2Proof.Machine

theorem EventAt.refl (o : Outlet) (s : State) : EventAt o s s := by
  cases o <;> exact ⟨rfl, rfl, .refl _, .refl _⟩

theorem EventAt.trans {o : Outlet} {s t u : State} (h : EventAt o s t) (k : EventAt o t u) : EventAt o s u := by
  obtain ⟨h, ho, hp, hf⟩ := h
  obtain ⟨k, ko, kp, kf⟩ := k
  refine ⟨?_, ?_, hp.trans kp, hf.trans kf⟩
  · rw [k, h]
  · rw [ko, ho]; rfl

/-- A computation is within what an event at either outlet may do. -/
theorem Shared.eventAt {s t : State} (h : Shared s t) (o : Outlet) : EventAt o s t := by
  obtain ⟨h, ha, hb, hf⟩ := h
  cases o
  · exact ⟨by rw [h]; rfl, by rw [h]; rfl, hb, hf⟩
  · exact ⟨by rw [h]; rfl, by rw [h]; rfl, ha, hf⟩

theorem eventAt_own (o : Outlet) (f : OutletState → OutletState) (s : State) : EventAt o s (s.modOut o f) := by
  cases o <;> exact ⟨rfl, rfl, .refl _, .refl _⟩

theorem eventAt_raise (o : Outlet) (f : EventFlag) (s : State) : EventAt o s (raise f s) := by
  cases o <;> exact ⟨rfl, rfl, .refl _, flagsKept_raise f s⟩

theorem eventAt_setSession (o : Outlet) (x : Session) (s : State) : EventAt o s (setSession o x s) := by
  cases o <;> exact ⟨rfl, rfl, .refl _, flagsKept_raise _ s⟩

theorem eventAt_raiseBy (o x : Outlet) (n : Nat) (s : State) : EventAt o s (raiseBy x n s) := by
  cases o <;> cases x <;> refine ⟨rfl, ?_, .refl _, .refl _⟩
  · rfl
  · simp only [raiseBy, otherOutlet, otherOnly, out_b, modOut_b, OutletState.mk.injEq, true_and, and_true]
    exact sendWord_figures _
  · simp only [raiseBy, otherOutlet, otherOnly, out_a, modOut_a, OutletState.mk.injEq, true_and, and_true]
    exact sendWord_figures _
  · rfl

theorem eventAt_serveRises (im : Image) (o : Outlet) (xs : List Outlet) (n : Nat) (s : State) :
    EventAt o s (serveRises im xs n s) := by
  induction xs generalizing n s with
  | nil => exact .refl _ _
  | cons x xs ih =>
    unfold serveRises
    split
    · exact ih _ _
    · dsimp only
      split
      · exact (eventAt_raiseBy o x _ s).trans (ih _ _)
      · exact ih _ _

theorem eventAt_rise (o : Outlet) (hold : Timer) (waiting : Bool) (s : State) :
    EventAt o s { s with grl.riseHold := hold, grl.riseWaiting := waiting } := by
  cases o <;> exact ⟨rfl, rfl, .refl _, .refl _⟩

/-- A rise evaluation (R78, R79). -/
theorem eventAt_evaluateRises (im : Image) (o : Outlet) (s : State) : EventAt o s (evaluateRises im s) :=
  (eventAt_serveRises im o _ _ s).trans (eventAt_rise o _ _ _)

/-- An effect with its update is within what an event may do where the effect is (R8). -/
theorem eventAt_noted (im : Image) {o : Outlet} {f : State → State} {s : State} (h : EventAt o s (f s)) :
    EventAt o s (noted im f s) :=
  h.trans ((shared_noteUpdate im _ _).eventAt o)

theorem eventAt_releaseRises (im : Image) (o : Outlet) (s : State) : EventAt o s (releaseRises im s) := by
  unfold releaseRises; split
  · exact eventAt_noted im (eventAt_evaluateRises im o s)
  · exact .refl _ _

theorem eventAt_settleRises (o : Outlet) (s : State) : EventAt o s (settleRises s) := by
  unfold settleRises; split
  · exact eventAt_rise o _ _ s
  · exact .refl _ _

theorem eventAt_decrease (im : Image) (o : Outlet) (n : Nat) (s : State) : EventAt o s (decrease im o n s) :=
  (shared_decrease im o n s).eventAt o

theorem eventAt_withdraw (im : Image) (o : Outlet) (s : State) : EventAt o s (withdraw im o s) := by
  unfold withdraw
  refine EventAt.trans ?_ ((eventAt_own o _ _).trans (eventAt_settleRises o _))
  split
  · exact eventAt_decrease im o 0 s
  · exact .refl _ _

/-- What a trip does at its outlet (R86, R87, R108). -/
theorem eventAt_tripOutlet (o : Outlet) (cause : TripCause) (s : State) : EventAt o s (tripOutlet o cause s) := by
  unfold tripOutlet tripGrants
  exact (((eventAt_own o _ s).trans (eventAt_setSession o _ _)).trans (eventAt_raise o _ _)).trans (eventAt_own o _ _)

/-- A trip (R107, R108, R86). -/
theorem eventAt_trip (im : Image) (o : Outlet) (cause : TripCause) (s : State) : EventAt o s (trip im o cause s) := by
  unfold trip; split
  · exact ((eventAt_noted im (eventAt_tripOutlet o cause s)).trans (eventAt_releaseRises im o _)).trans
      (eventAt_settleRises o _)
  · exact .refl _ _

/-- A confirmation's effect on the grants (R74). -/
theorem eventAt_confirmDecrease (im : Image) (o : Outlet) (s : State) : EventAt o s (confirmDecrease im o s) :=
  (eventAt_noted im (eventAt_own o _ s)).trans (eventAt_releaseRises im o _)

theorem eventAt_outletEvent (im : Image) (o : Outlet) (before after : State) :
    EventAt o after (outletEvent im before after) := (shared_outletEvent im before after).eventAt o

theorem eventAt_tripEvent (im : Image) (o : Outlet) (cause : TripCause) (s : State) :
    EventAt o s (tripEvent im o cause s) := (eventAt_trip im o cause s).trans (eventAt_outletEvent im o s _)

theorem eventAt_testStart (o : Outlet) (s : State) : EventAt o s (testStart o s) := by
  unfold testStart; split
  · exact (eventAt_own o _ s).trans (eventAt_setSession o _ _)
  · exact .refl _ _

theorem eventAt_enterDwell (im : Image) (o : Outlet) (s : State) : EventAt o s (enterDwell im o s) :=
  ((eventAt_own o _ s).trans (eventAt_setSession o _ _)).trans (eventAt_withdraw im o _)

theorem eventAt_exhaust (im : Image) (o : Outlet) (s : State) : EventAt o s (exhaust im o s) :=
  (((eventAt_own o _ s).trans (eventAt_setSession o _ _)).trans (eventAt_raise o _ _)).trans (eventAt_withdraw im o _)

/-- Where the announced values are what they were, an event updates nothing (R8). -/
theorem noteUpdate_same (im : Image) (b : Announced) (s : State) (h : announced im s = b) : noteUpdate im b s = s := by
  unfold noteUpdate; simp [h]

/-- An event that changes no session and no announced value ends as it stands (R46, R8). -/
theorem outletEvent_same (im : Image) (before after : State) (h : sessions after = sessions before)
    (k : announced im after = announced im before) : outletEvent im before after = after := by
  unfold outletEvent; rw [if_pos h, noteUpdate_same im _ _ k]

end Sys2Proof.Machine
end

