-- ==== Sys2Proof/Laws/Operations.lean ====
section
/-! SUPPORT. What the shared operations outside a computation can do: counters and filters, the host port's gates, the settlement
queue, the end and the start of a session, the line mode, and the resets. Later proofs cite these instead of unfolding them. -/

namespace Sys2Proof.Machine

-- Counters, filters, bytes.

theorem satAdd_le (max n k : Nat) : satAdd max n k ≤ max := Nat.min_le_left _ _

theorem satAdd_of_le {max n k : Nat} (h : n + k ≤ max) : satAdd max n k = n + k := Nat.min_eq_right h

/-- A count below its range's end rises by 1 and draws nothing; at the end it takes a free value of its range (log 3). -/
theorem bump_cases (max n draws : Nat) :
    (n < max ∧ bump max n draws = (n + 1, draws)) ∨
      (max ≤ n ∧ ∃ v, v ≤ max ∧ bump max n draws = (v, draws + 1)) := by
  unfold bump
  split
  · exact .inl ⟨‹_›, rfl⟩
  · exact .inr ⟨Nat.le_of_not_lt ‹_›, _, Nat.le_of_lt_succ (Nat.mod_lt _ (Nat.succ_pos _)), rfl⟩

theorem bump_le (max n draws : Nat) : (bump max n draws).1 ≤ max := by
  rcases bump_cases max n draws with ⟨h, e⟩ | ⟨-, v, h, e⟩ <;> rw [e]
  · exact h
  · exact h

/-- One sample keeps the recognised level and the pin, and a run stays within the depth (R94, R121). -/
theorem sampleFilter_spec (depth : Nat) (f : Filter) (h : f.run ≤ depth) :
    (sampleFilter depth f).level = f.level ∧ (sampleFilter depth f).pin = f.pin ∧ (sampleFilter depth f).run ≤ depth := by
  unfold sampleFilter
  split
  · exact ⟨rfl, rfl, h⟩
  · split
    · exact ⟨rfl, rfl, Nat.zero_le _⟩
    · exact ⟨rfl, rfl, Nat.lt_of_not_le ‹_›⟩

@[simp] theorem be_length (n v : Nat) : (be n v).length = n := by
  induction n with
  | zero => rfl
  | succ n ih => simp [be, ih]

@[simp] theorem beOpt_length (n : Nat) (v : Option Nat) : (beOpt n v).length = n := by
  cases v <;> simp [beOpt]

-- The host port's gates (R182 to R185, R196).

theorem finishCaptured_keeps (c : Instr) (s : State) :
    finishCaptured c s = { s with hpt.captured := (finishCaptured c s).hpt.captured } := by
  unfold finishCaptured; split <;> rfl

/-- Where the part serves the host, a command allowed in every state is executed. -/
theorem hostAny_serves {im : Image} {s : State} (h : Serves im s) (c : Instr) (f : State → State) :
    hostAny c f s = f (finishCaptured c s) := by
  simp only [hostAny, h.1, h.2]
  rfl

theorem hostAny_unconfigured {s : State} (h : s.configured = .unconfigured) (c : Instr) (f : State → State) :
    hostAny c f s = f (finishCaptured c s) := by
  simp only [hostAny, h]

/-- Where the part serves the host, a command of a RUNNING part is executed with the image in force. -/
theorem hostRunning_serves {im : Image} {s : State} (h : Serves im s) (c : Instr) (code : Nat) (f : Image → State → State) :
    hostRunning c code f s = f im (finishCaptured c s) := by
  simp only [hostRunning, h.1, h.2]
  rfl

/-- While LOADING, and in the wait after RESTART, the transaction is answered PENDING (R184). -/
theorem host_pending {s : State} (h : (∃ read, s.configured = .loading read) ∨
    ∃ im, s.configured = .running im ∧ s.slc.leaveWait = true) (c : Instr) (code : Nat) (f : State → State)
    (g : Image → State → State) : hostAny c f s = answerPending s ∧ hostRunning c code g s = answerPending s := by
  rcases h with ⟨read, h⟩ | ⟨im, h, k⟩
  · simp only [hostAny, hostRunning, h, and_self]
  · simp only [hostAny, hostRunning, h, k, if_true, and_self]

-- The settlement queue (R174) and the end of a session (R87, R116, R117).

/-- A record that enters the queue takes the counter's value at its newest end; nothing but flags changes besides. -/
theorem enterQueue_keeps (r : Record) (s : State) :
    enterQueue r s =
      { s with
        stu := ⟨s.stu.queue ++ [{ r with sequence := s.stu.counter }], s.stu.counter + 1, s.stu.settleWait⟩
        hpt.flags := (enterQueue r s).hpt.flags } := by
  unfold enterQueue
  cases s.stu.queue.isEmpty <;> simp only [Bool.false_eq_true, if_true, if_false] <;> split <;> rfl

theorem enterQueue_flags (r : Record) (s : State) : FlagsKept s (enterQueue r s) := by
  have one := flagsKept_raise .recordReady s
  have two := one.trans (flagsKept_raise .queueFull (raise .recordReady s))
  unfold enterQueue
  simp only
  split <;> split
  · exact two
  · exact one
  · exact flagsKept_raise .queueFull s
  · exact .refl s

/-- The entry to IDLE or SETTLE_WAIT touches the station's rises and the outlet's grant values alone. -/
theorem clearGrants_keeps (o : Outlet) (s : State) :
    clearGrants o s = { s with grl := (clearGrants o s).grl, outA := (clearGrants o s).outA, outB := (clearGrants o s).outB } ∧
      (clearGrants o s).out (otherOutlet o) = s.out (otherOutlet o) ∧
      (clearGrants o s).grl.order = s.grl.order.filter (fun x => x != o) := by
  unfold clearGrants settleRises
  cases o <;> simp only <;> split <;> exact ⟨rfl, rfl, rfl⟩

theorem clearGrants_out (o : Outlet) (s : State) :
    (clearGrants o s).out o =
      { s.out o with
        grl.target := 0, grl.commanded := 0, grl.inEffect := 0, grl.pending := none, grl.unconfirmed := false
        grl.confirmTimer := none, grl.parkHold := .stopped } := by
  unfold clearGrants settleRises
  cases o <;> simp only <;> split <;> rfl

/-- The acceptance of OPEN SESSION leaves the other outlet alone, raises flags alone, and appends to the opening order (R79, R100). -/
theorem acceptOpen_keeps (im : Image) (o : Outlet) (h : Header) (s : State) :
    acceptOpen im o h s =
        { s with
          grl.order := s.grl.order ++ [o], hpt.flags := s.hpt.flags ||| flagMask (changeFlag o)
          outA := (acceptOpen im o h s).outA, outB := (acceptOpen im o h s).outB } ∧
      (acceptOpen im o h s).out (otherOutlet o) = s.out (otherOutlet o) := by
  cases o <;> exact ⟨rfl, rfl⟩

-- The line mode (R39, R40).

/-- A mode evaluation leaves the mode of R39 and changes nothing but the mode state and the flags. -/
theorem evaluateMode_spec (im : Image) (s : State) :
    (evaluateMode im s).prs.mode = evaluatedMode im s ∧ FlagsKept s (evaluateMode im s) ∧
      evaluateMode im s =
        { s with
          prs := { s.prs with
            mode := (evaluateMode im s).prs.mode, unheard := (evaluateMode im s).prs.unheard
            heardSinceEntry := (evaluateMode im s).prs.heardSinceEntry }
          hpt.flags := (evaluateMode im s).hpt.flags } := by
  unfold evaluateMode
  simp only
  split
  · exact ⟨(‹evaluatedMode im s = s.prs.mode›).symm, .refl s, rfl⟩
  · have k := flagsKept_raise .lineMode { s with prs.mode := evaluatedMode im s }
    split
    · exact ⟨rfl, k, rfl⟩
    · exact ⟨rfl, k, rfl⟩

-- The effective limit (R32) and the transmit slot at an update (R8).

/-- L_eff is the smallest of L and the FRESH entries' limits: at most each of them, and one of them. -/
theorem effectiveLimit_spec (im : Image) (roster : List Entry) :
    effectiveLimit im roster ≤ im.limit ∧ (∀ e ∈ roster, e.fresh = true → effectiveLimit im roster ≤ e.limit) ∧
      (effectiveLimit im roster = im.limit ∨ ∃ e ∈ roster, e.fresh = true ∧ effectiveLimit im roster = e.limit) := by
  unfold effectiveLimit
  generalize im.limit = l
  induction roster generalizing l with
  | nil => exact ⟨Nat.le_refl _, by simp, .inl rfl⟩
  | cons e es ih =>
    rw [List.foldl_cons]
    have h := ih (if e.fresh then min l e.limit else l)
    generalize es.foldl (fun l e => if e.fresh then min l e.limit else l) (if e.fresh then min l e.limit else l) = x at h ⊢
    simp only [List.mem_cons, forall_eq_or_imp, exists_eq_or_imp]
    cases k : e.fresh <;> simp only [k, if_true, Bool.false_eq_true, if_false] at h ⊢
    · exact ⟨h.1, ⟨nofun, h.2.1⟩, h.2.2.imp id fun m => .inr m⟩
    · refine ⟨by omega, ⟨fun _ => by omega, h.2.1⟩, ?_⟩
      rcases h.2.2 with m | m
      · rcases Nat.le_total l e.limit with n | n
        · exact .inl (by omega)
        · exact .inr (.inl ⟨trivial, by omega⟩)
      · exact .inr (.inr m)

/-- What an update does to the slot: nothing, or an EMPTY one becomes DEFERRED or DUE (R8). -/
theorem noteUpdate_cases (im : Image) (before : Announced) (s : State) :
    noteUpdate im before s = s ∨
      (s.slc.slot = .empty ∧ announced im s ≠ before ∧ s.slc.reference ≠ some (announced im s) ∧ announces s = true ∧
        noteUpdate im before s = { s with slc.slot := slotAtUpdate im s }) := by
  unfold noteUpdate; split
  · rename_i h
    exact .inr ⟨h.2.2.1, h.1, h.2.1, h.2.2.2, rfl⟩
  · exact .inl rfl

/-- An effect with its update: the effect, and an EMPTY slot that may become DEFERRED or DUE (R8). -/
theorem noted_keeps (im : Image) (f : State → State) (s : State) :
    noted im f s = { f s with slc.slot := (noted im f s).slc.slot } ∧
      ((f s).slc.slot ≠ .empty → (noted im f s).slc.slot = (f s).slc.slot) := by
  rcases noteUpdate_cases im (announced im s) (f s) with h | ⟨h, -, -, -, k⟩
  · exact ⟨by rw [noted, h], fun _ => by rw [noted, h]⟩
  · exact ⟨by rw [noted, k], fun n => absurd h n⟩

-- The events that fall due, and the transactions.

theorem mem_dueIf {p : Bool} {c i : Instr} : c ∈ dueIf p i ↔ p = true ∧ c = i := by
  unfold dueIf; cases p <;> simp

theorem mem_dueLevel {depth : Nat} {f : Filter} {c rise fall : Instr} :
    c ∈ dueLevel depth f rise fall ↔ depth ≤ f.run ∧ c = if f.level then fall else rise := by
  simp only [dueLevel, mem_dueIf, recognises, decide_eq_true_eq]

theorem ranOut_iff {s : State} {t : Timer} : ranOut s t = true ↔ ∃ time, t = some time ∧ time ≤ s.now := by
  cases t <;> simp [ranOut]

/-- What is shifted out is as long as the host clocks (R181). -/
@[simp] theorem shiftedOut_length (r : Response) (n : Nat) : (shiftedOut r n).length = n := by
  simp [shiftedOut]

@[simp] theorem shiftedAcross_length (draw n : Nat) : (shiftedAcross draw n).length = n := by
  simp [shiftedAcross]

/-- The end of a transaction touches chip select, what MISO carried and the message captured (R180 to R183). -/
theorem endTransaction_keeps (miso : List Byte) (captured : Option (List Byte)) (s : State) :
    endTransaction miso captured s = { s with hpt := ⟨s.hpt.flags, s.hpt.enable, s.hpt.held, captured, false, false, miso, true⟩ } :=
  rfl

/-- A pass that ends begins the second one exactly where it is the first of a read that has not failed (R204). -/
theorem secondPass_cases (read : ConfigRead) (result : ReadResult) :
    (∃ bytes, result = .pass bytes ∧ read.firstPass = none ∧ read.failed = false ∧
        secondPass read result = some ⟨some bytes, 0, false⟩) ∨
      (secondPass read result = none ∧
        (result = .noAcknowledge ∨ read.firstPass.isSome = true ∨ read.failed = true)) := by
  cases result with
  | noAcknowledge => exact .inr ⟨rfl, .inl rfl⟩
  | pass bytes =>
    cases h : read.firstPass <;> cases k : read.failed <;> simp [secondPass, h, k]

-- The resets (R203, R210).

/-- The reinitialisation leaves what R210 says (`Reinitialised`). -/
theorem reinitialise_spec (s : State) : Reinitialised [] s (reinitialise s) :=
  ⟨rfl, rfl, rfl, rfl, rfl, rfl, rfl, rfl, rfl, rfl, rfl, rfl, rfl, rfl, rfl,
    ⟨⟨rfl, rfl, rfl, rfl, rfl⟩, rfl, rfl, rfl, rfl, rfl, rfl, rfl⟩, ⟨⟨rfl, rfl, rfl, rfl, rfl⟩, rfl, rfl, rfl, rfl, rfl, rfl, rfl⟩⟩

theorem resetOutlet_spec (u : OutletState) : OutletReset 0 u (resetOutlet u) :=
  ⟨⟨rfl, rfl, rfl, rfl, rfl⟩, rfl, rfl, rfl, rfl, rfl, rfl, rfl⟩

/-- The reinitialisation that a bit error begins leaves the abort pattern as what was driven last (R12). -/
theorem drivingAbort_spec {drive : List Bool} {s t : State} (h : Reinitialised drive s t) :
    Reinitialised abortPattern s (drivingAbort t) := by
  obtain ⟨h1, h2, h3, h4, h5, h6, h7, h8, hs, h⟩ := h
  exact ⟨h1, h2, h3, h4, h5, h6, h7, h8, by rw [drivingAbort, hs], h⟩

/-- The wait after RESTART ends in the reinitialisation, or the state stays (R20). -/
theorem leaveCheck_cases (s : State) :
    (leaveCheck s = reinitialise s ∧ s.slc.leaveWait = true ∧
        (s.slc.tx ≠ .on ∨ (s.slc.leaveExpired = true ∧ sendingLeave s = false))) ∨
      leaveCheck s = s := by
  unfold leaveCheck
  split
  · rename_i h
    simp only [Bool.and_eq_true, Bool.or_eq_true, bne_iff_ne, Bool.not_eq_true'] at h
    exact .inl ⟨rfl, h.1, h.2⟩
  · exact .inr rfl

end Sys2Proof.Machine
end

