-- ==== Sys2Proof/Tests/Slice0.lean ====
section
/-! SUPPORT. Tests: what `wellFormed` refuses, the spec's worked examples, one step of every family, and for every statement with
hypotheses a state that meets them (`witness_<statement>`). Expected values come from the spec; each test names its place. -/

open Sys2Proof Sys2Proof.Machine

namespace Sys2Proof.Tests

-- One kernel evaluation at a time: side by side they would need more thread stacks than the check allows.
set_option Elab.async false

-- Small states.

/-- The configuration of the park of four (spec/03, Worked Case), with timing values within R206 and R207. -/
def demo : Image :=
  { stationId := 1, nSite := 4, limit := 12000, guard := 500, pMax := 4000, outlets := 2, pOutA := 3500, pOutB := 3500,
    weight0 := 1, weight1 := 2, weight2 := 4, weight3 := 8, sharePeriod := 500, staleCount := 3, isolationCount := 5,
    lapseCount := 8, riseStep := 500, resumeMargin := 100, parkHold := 10, confirmTimeout := 1000, startTimeout := 10,
    feedbackTime := 100, filterDepth := 3, meterDepth := 7, pulseWeight := 10, beta := 2, tolerance := 100,
    overDrawLimit := 3, busyPercent := 55, stopReserve := 100, weekend := 0x60 }

/-- The bytes of that image by Table 27, with its check word. -/
def demoImage : Vector Byte 64 :=
  let l := be 1 1 ++ be 1 4 ++ be 2 12000 ++ be 2 500 ++ be 2 4000 ++ be 1 2 ++ be 2 3500 ++ be 2 3500 ++ [1, 2, 4, 8] ++
    be 2 500 ++ [3, 5, 8] ++ be 2 500 ++ be 2 100 ++ [10] ++ be 2 1000 ++ [10] ++ be 2 100 ++ [3, 7, 10, 2] ++ be 2 100 ++
    [3, 55] ++ be 2 100 ++ [0x60] ++ List.replicate 19 0
  vecOf 64 (l ++ be 2 (65535 - imageSum l))

/-- 64 bytes of 255: an image that is not valid (R205). -/
def badImage : Vector Byte 64 := Vector.replicate 64 255

/-- The state after a command; the state itself where there is none. -/
def after (c : Instr) (s : State) : State :=
  match exec c s with
  | .next t => t
  | .fault _ => s
  | .refused _ => s

/-- A bank whose window 0 covers every slot, day, tier and site condition at 500, with a fallback price of 650. -/
def bank : BankContents :=
  { version := 7, sessionFee := 50, occupancyFee := 40, grace := 2, fallback := 650
    windows := (Vector.replicate 8 ⟨false, 0, 0, 0, 0, 0, 0⟩).set 0 ⟨true, 0, 3, 0, 95, 15, 500⟩ }

/-- RUNNING on the image, JOINED, bank A LOADED, the clock SET, no flag set, nothing on the line. -/
def served : State :=
  { State.reset with
    configured := .running demo
    prs := { Prs.start demo with mode := .joined, peerSilence := 0, ackSilence := 0 }
    tru := { Tru.reset with bankA := some bank, clock := ⟨true, 600, 0, 0⟩ } }

/-- The same part UNCONFIGURED. -/
def unset : State := { State.reset with configured := .unconfigured }

/-- An outlet in a session state, bound to bank A, tier 1, hold 5000, demand 1500, floor 600. -/
def sessionIn (x : Session) : OutletState :=
  { OutletState.reset with
    osc := { Osc.reset with
      state := x, driveClosed := true, header := ⟨9, 5000, 1, 1500, 600, some (.a, 7), some (.a, 7), some 600⟩ }
    tru.binding := some .a
    mtf.capture := .waiting }

/-- Outlet A in a session state. -/
def withA (u : OutletState) : State := { served with outA := u }

/-- Outlet A in a session state and a close phase, with a setpoint, and a decrease unconfirmed or not. -/
def closing (phase : ClosePhase) (commanded : Nat) (unconfirmed feedback : Bool) : State :=
  let u := sessionIn .closing
  withA
    { u with
      osc.closePhase := some phase, osc.closeTimer := some 9, grl.commanded := commanded, grl.unconfirmed := unconfirmed
      feedback.level := feedback }

/-- A record in the queue. -/
def record (n : BitVec 16) : Record := { buildRecord .a (sessionIn .dispensing) with sequence := n }

/-- An ANNOUNCE of station 2 with a claim of 3000 at outlet A. -/
def peerContent : Announced :=
  { mode := .joined, limit := 12000, granted := 1800, intended := 2300, claimA := ⟨true, 3000, 1, false⟩
    claimB := ⟨false, 0, 1, false⟩, heard := 2 }

/-- The frame of that ANNOUNCE. -/
def peerFrame (id : Nat) : Vector Byte 21 := vecOf 21 (announceBytes id 5 peerContent)

/-- The frame of a LEAVE. -/
def peerLeave (id : Nat) : Vector Byte 4 := vecOf 4 (leaveBytes id 5)

-- Well-formedness.

/-- A frame whose kind bit is LEAVE's is no ANNOUNCE row (R3). -/
theorem test_wf_refuses_announce_kind :
    (Instr.announceReceived (vecOf 21 (leaveBytes 2 0)) false).wellFormed = false := by decide +kernel

/-- A frame whose kind bit is ANNOUNCE's is no LEAVE row (R3). -/
theorem test_wf_refuses_leave_kind :
    (Instr.leaveReceived (vecOf 4 (announceBytes 2 0 peerContent)) false).wellFormed = false := by decide +kernel

/-- Bytes that spell NOP are not the UNKNOWN_COMMAND row's (R185). -/
theorem test_wf_refuses_known_command : (Instr.unknownCommand [1, 0, 0]).wellFormed = false := by decide +kernel

/-- A byteless transaction carries no command (R180). -/
theorem test_wf_refuses_no_bytes : (Instr.unknownCommand []).wellFormed = false := by decide +kernel

/-- The rows' own frames are well formed. -/
theorem test_wf_takes_frames :
    (Instr.announceReceived (peerFrame 2) false).wellFormed && (Instr.leaveReceived (peerLeave 2) false).wellFormed &&
      (Instr.unknownCommand [0x20, 0, 0]).wellFormed = true := by decide +kernel

-- Decoding and layouts.

/-- The table gives no row any bits. -/
theorem test_no_row_has_bits : decodeTableWord 8 1 = none ∧ State.reset.withFetchWord 8 1 = State.reset := by decide

/-- Table 23 by hand: SET DEMAND, outlet B, demand 350.0 kW (0DACh), floor 60.0 kW (0258h), not complete. -/
theorem test_message_of_set_demand :
    commandOf [0x07, 0x00, 0x06, 0x01, 0x0D, 0xAC, 0x02, 0x58, 0x00] = .setDemand 1 3500 600 0 := by decide +kernel

/-- Table 23 by hand: EVENTS, clear {RESTART}, then fill. -/
theorem test_message_of_events : commandOf [0x10, 0x00, 0x02, 0x00, 0x01, 0xFF] = .events 1 := by decide +kernel

/-- R185 step 1: two bytes are no command. -/
theorem test_message_too_short : commandOf [0x01, 0x00] = .unknownCommand [0x01, 0x00] := by decide +kernel

/-- R3: a LEAVE of any station goes before every ANNOUNCE, and of one kind the lower id, since dominant is 0. -/
theorem test_arbitration_field :
    arbitrationField .announce 3 = 143 ∧ arbitrationField .announce 7 = 159 ∧ arbitrationField .leave 31 = 127 := by decide

/-- R213, by its layout: 329.4 kW is 3294 = 0CDEh, and 255 − (0Ch + DEh) = 15h; before them a LOW start bit, after them a HIGH stop
bit. -/
theorem test_setpoint_word : setpointWord 3294 = 0x0CDE15 ∧ setptWord 3294 = 0b0_0000_1100_1101_1110_0001_0101_1 := by decide

/-- R2: four equal bits are followed by one of the other level; the start bit counts. -/
theorem test_stuffing :
    stuffed [false, false, false, true] = [false, false, false, true, true] ∧
      unstuffed [false, false, false, false] = none := by decide

/-- R205's examples: an image of 64 bytes of 255 fails, so does one of 0; this one passes with its own items. -/
theorem test_images :
    validImage badImage.toList = none ∧ validImage (List.replicate 64 0) = none ∧
      validImage demoImage.toList = some demo := by decide +kernel

/-- R206: with one outlet fitted P_out(B) may hold any value; with two it may not. -/
theorem test_p_out_b_is_not_examined :
    itemsInRange { demo with outlets := 1, pOutB := 0 } = true ∧ itemsInRange { demo with pOutB := 0 } = false := by
  decide +kernel

/-- R207's example: lapse count 6 with 500 ms, 5 and 1000 ms fails, lapse count 8 holds. -/
theorem test_third_relation : relationsHold { demo with lapseCount := 6 } = false ∧ relationsHold demo = true := by
  decide +kernel

/-- R212: the OK payload of STATUS holds 15 bytes; the flags come last. -/
theorem test_status_payload : (statusPayload { served with hpt.flags := 1 }).getLast? = some 1 := by decide +kernel

-- Shares and grants: the worked case of spec/03.

/-- The park of four: outlet A at tier 1 with demand 3500, outlet B at tier 0 with demand 1500 and floor 600, peer 2 FRESH, peer 3
STALE. -/
def park : State :=
  let a := sessionIn .dispensing
  { served with
    prs :=
      { served.prs with
        unseen := 1
        roster :=
          [⟨2, true, 0, 2, 5, 0, ⟨true, 3000, 1, false⟩, ⟨false, 0, 1, false⟩, 1800, 2300, 12000, 2, .joined⟩,
            ⟨3, false, 4, 0, 5, 0, ⟨false, 0, 1, false⟩, ⟨false, 0, 1, false⟩, 2500, 2500, 12000, 2, .joined⟩] }
    outA := { a with osc.header := { a.osc.header with demand := 3500, floor := 0 } }
    outB := { a with osc.header := { a.osc.header with tier := 0 } } }

/-- First computation: iso 2875, A 6125, busy, A 3500/3294/3294, B 1500/705/538. -/
theorem test_worked_first_computation :
    (compute demo park).shc = ⟨2875, 6125, true⟩ ∧ (compute demo park).outA.share = ⟨3500, 3294, 3294, none⟩ ∧
      (compute demo park).outB.share = ⟨1500, 705, 538, none⟩ := by decide +kernel

/-- Second computation: B parks at its floor of 600, and A's target is 3500 with B's hypothetical share 538, not busy. -/
theorem test_worked_second_computation :
    (computation demo park).outA.share = ⟨3500, 3500, 3500, none⟩ ∧
      (computation demo park).outB.share = ⟨1500, 0, 0, some 538⟩ ∧ (computation demo park).shc.busy = false ∧
      (computation demo park).outB.osc.state = .parked := by decide +kernel

/-- The rise of outlet A: H = 12000 − 500 − 2300 − 2500 − 2875 = 3825. -/
theorem test_worked_headroom : headroom demo park = 3825 := by decide +kernel

/-- The same station, isolated: targets 2597 and 277. -/
theorem test_worked_isolated :
    let s := compute demo { park with prs.mode := .isolated }
    s.outA.share.target = 2597 ∧ s.outB.share.target = 277 := by decide +kernel

/-- R52's example of the opening test: V = 2, demands 1 and 1, weights 15 and 1, settled in two rounds. -/
theorem test_rounds_settle : rounds 2 2 [⟨none, 1, 15⟩, ⟨none, 1, 1⟩] = [(⟨none, 1, 15⟩, 1), (⟨none, 1, 1⟩, 1)] := by decide

/-- R53: one claimant with a demand above V receives V. -/
theorem test_one_claimant : waterFill 7 [⟨none, 9, 3⟩] = [(⟨none, 9, 3⟩, 7)] := by decide

-- Metering, prices and accounts.

/-- R128's example: 10 Wh over 1029 units give 3498 steps; the limit is reached at 54 units. -/
theorem test_estimate : estimateOf 10 1029 = 3498 ∧ estimateOf 10 54 = 65535 ∧ estimateOf 10 55 = 65454 := by decide

/-- The sequence of spec/06: 3000 and 3050 give 3012; 3041 toward 2057 gives 2795 without a reseed, 2057 with one. -/
theorem test_smoothing :
    smooth 2 false 3000 3050 = 3012 ∧ smooth 2 false 3041 2057 = 2795 ∧ smooth 2 true 3041 2057 = 2057 := by decide +kernel

/-- R149's example: with a weekend of {5, 6} a WEEKDAY window over slots 88 to 7 matches slot 3 of day 4, not of day 5. -/
theorem test_window_past_midnight :
    let w : Window := ⟨true, 0, 1, 88, 7, 15, 500⟩
    windowMatches w (slotOf (4 * 1440 + 45)) (onWeekend demo (4 * 1440 + 45)) 1 false = true ∧
      windowMatches w (slotOf (5 * 1440 + 45)) (onWeekend demo (5 * 1440 + 45)) 1 false = false := by decide +kernel

/-- R169: 30,334,999 gives 3033 and 30,335,000 gives 3034. -/
theorem test_rounding : totalOf 30334999 = 3033 ∧ totalOf 30335000 = 3034 := by decide

/-- R164's example: a hold of 300 and a stop reserve of 500 Wh at 6000 make a threshold of 0. -/
theorem test_threshold : creditReached 300 500 6000 0 = true ∧ creditReached 301 500 6000 0 = false := by decide

/-- R163: the first pulse brings the fee of 50 minor units; 10 Wh at 500 are 5000 micro-units. -/
theorem test_first_pulse_brings_the_fee :
    (accrue 10 50 ⟨.found, 500, .window 0⟩ .cleared).total = 505000 := by decide

/-- R147: 10079:59.999 goes to 0:00.000. -/
theorem test_clock_wraps : advanceClock ⟨true, 10079, 59, 999⟩ = ⟨true, 0, 0, 0⟩ := by decide

-- One step of every family.

/-- R208: the end of a good read enters RUNNING with RESTART raised and ATTN asserted. -/
theorem test_read_end_enters_running :
    let t := after (.configurationReadEnd (.pass demoImage))
      { State.reset with configured := .loading (some ⟨some demoImage, 3, false⟩) }
    t.configured = .running demo ∧ t.attn = true ∧ t.outB.grl.word = some 0x00001FF := by decide +kernel

/-- R204: the end of the first pass begins the second with 100 ms of its own, and a pass of 100 ms times out. -/
theorem test_read_has_two_passes :
    let f := fun n => { State.reset with configured := .loading (some ⟨none, n, false⟩) }
    (after (.configurationReadEnd (.pass demoImage)) (f 99)).configured = .loading (some ⟨some demoImage, 0, false⟩) ∧
      dueEvents (f 99) = [] ∧ dueEvents (f 100) = [.passTimeout] := by decide +kernel

/-- spec/09, First Session: EVENTS with clear {RESTART} answers {RESTART} and releases ATTN. -/
theorem test_events_release_attn :
    let t := after (.events 1) { served with hpt.flags := 1 }
    t.hpt.held.payload = [0, 1] ∧ t.attn = false := by decide +kernel

/-- spec/09, First Session: OPEN SESSION with demand 4000 and floor 600 answers 3500 and 600; STARTING; OUTLET A CHANGE alone. -/
theorem test_open_session :
    let t := after (.openSession 0 9 5000 1 4000 600) served
    t.hpt.held.payload = be 2 3500 ++ be 2 600 ∧ t.outA.osc.state = .starting ∧ t.hpt.flags = 16 := by decide +kernel

/-- R192: OPEN SESSION is answered RESTART UNSEEN while RESTART is set. -/
theorem test_open_session_restart_unseen :
    (after (.openSession 0 9 5000 1 4000 600) { served with hpt.flags := 1 }).hpt.held = ⟨.restartUnseen, 6, []⟩ := by
  decide +kernel

/-- R103: SET DEMAND with the complete flag takes DISPENSING to DWELL. -/
theorem test_set_demand_complete :
    (after (.setDemand 0 0 0 1) (withA (sessionIn .dispensing))).outA.osc.state = .dwell := by decide +kernel

/-- R112: CLOSE SESSION with a setpoint waits for the output. -/
theorem test_close_waits :
    let u := sessionIn .dispensing
    (after (.closeSession 0) (withA { u with grl.commanded := 900 })).outA.osc.closePhase = some .outputWait := by decide +kernel

/-- R20: RESTART with the transmitter ON makes a LEAVE due for 100 ms. -/
theorem test_restart_leaves :
    let t := after .restart served
    t.slc.slot = .due .leave ∧ t.slc.leaveTimer = some 100 ∧ t.hpt.held = ⟨.ok, 18, []⟩ := by decide +kernel

/-- R15 and R24: an accepted ANNOUNCE is acknowledged and makes a FRESH entry; its limit of 12000 is the own. -/
theorem test_announce_received :
    let t := after (.announceReceived (peerFrame 2) false) served
    t.slc.drive = [false] ∧ t.prs.roster.map Entry.id = [2] ∧ t.prs.unseen = 2 := by decide +kernel

/-- R17: a frame with the own id bars the transmitter and is not acknowledged. -/
theorem test_own_id_bars :
    let t := after (.announceReceived (peerFrame 1) false) served
    t.slc.tx = .barred ∧ t.slc.drive = [] ∧ t.prs.mode = .isolated := by decide +kernel

/-- R26: a LEAVE removes the entry. -/
theorem test_leave_received : (after (.leaveReceived (peerLeave 2) false) park).prs.roster.map Entry.id = [3] := by
  decide +kernel

/-- R7, R8 and R27: a tick owes an ANNOUNCE and ages the entries. -/
theorem test_tick :
    let t := after .sharePeriodTick park
    t.slc.slot = .due .announce ∧ t.prs.roster.map Entry.age = [1, 5] := by decide +kernel

/-- R109: E-STOP trips a DISPENSING outlet. -/
theorem test_e_stop :
    let t := after .eStopAsserted (withA (sessionIn .dispensing))
    t.outA.osc.state = .tripped ∧ t.outA.osc.driveClosed = false ∧ t.outB.osc.state = .idle := by decide +kernel

/-- R114 and R174: FEEDBACK recognised open in OPEN WAIT completes the close; the record takes number 0. -/
theorem test_close_completes :
    let t := after (.feedbackOpen .a) (closing .openWait 0 false true)
    t.outA.osc.state = .idle ∧ t.stu.queue.map Record.sequence = [0] ∧ t.flagSet .recordReady = true := by decide +kernel

/-- R138, R93, R116 and R168: the completion clears binding and record of it together; the header and the record keep what they had, and
OUTLET STATUS reads bank A with version 7 after the sixteen bytes of the fitted indication, state, phase, reference, hold, tier, demand and
floor. -/
theorem test_close_clears_the_binding_alone :
    let t := after (.feedbackOpen .a) (closing .openWait 0 false true)
    t.outA.tru.binding = none ∧ t.outA.osc.header = ⟨9, 5000, 1, 1500, 600, some (.a, 7), none, some 600⟩ ∧
      ((outletPayload demo t .a).drop 16).take 3 = [0, 0, 7] ∧
      t.stu.queue.map Record.bound = [some (.a, 7)] := by decide +kernel

/-- R124: a pulse of an IDLE outlet is stray. -/
theorem test_stray_pulse : (after (.meterPulse .b) served).outB.mtf.stray = 1 := by decide +kernel

/-- R160: a billed pulse of 10 Wh goes to segment 0 and brings the session fee. -/
theorem test_billed_pulse :
    let t := after (.meterPulse .a) (withA (sessionIn .dispensing))
    t.outA.acc.segments = [⟨.window 0, 10, 5000⟩] ∧ t.outA.acc.feeApplied = 50 := by decide +kernel

/-- R183: a transaction that begins while a command executes shifts out PENDING with no code and no payload. -/
theorem test_pending : (after .pending { served with hpt.captured := some [1, 0, 0] }).hpt.miso = [1, 0, 0, 0] := by
  decide +kernel

/-- R180 and R181: six bytes clocked carry the four of the PENDING answer and two of all ones; MISO is then released. -/
theorem test_pending_ends :
    let t := after (.chipSelectRise [2, 0, 0, 0, 0, 0]) (after .pending { served with hpt.captured := some [1, 0, 0] })
    t.hpt.miso = [1, 0, 0, 0, 255, 255] ∧ t.hpt.misoReleased = true ∧ t.hpt.captured = some [1, 0, 0] := by decide +kernel

/-- R203: a transaction under way at the reset line is not taken, though its end comes after the new read. -/
theorem test_transaction_across_a_reset :
    let t := after .resetLineReleased (after .resetLineAsserted (after .pending { served with hpt.captured := some [1, 0, 0] }))
    let u := after (.configurationReadEnd (.pass demoImage)) (after (.configurationReadEnd (.pass demoImage)) t)
    u.configured = .running demo ∧ (after (.chipSelectRise [2, 0, 0]) u).hpt.captured = none := by decide +kernel

/-- R203: nor is one that no PENDING row announced; the next transaction is. -/
theorem test_unannounced_transaction_across_a_reset :
    let t := after (.chipSelectRise [2, 0, 0]) { served with hpt.underWay := true }
    t.hpt.captured = none ∧ (after (.chipSelectRise [1, 0, 0]) t).hpt.captured = some [1, 0, 0] := by decide +kernel

/-- R12 and R20: the sixteenth bit error ends the LEAVE wait, after the six dominant bits of the abort pattern. -/
theorem test_abort_ends_the_leave_wait :
    let t := after .bitError { served with slc := { Slc.reset with
      leaveWait := true, slot := .sending (.leave 0), bitErrorRun := 15 } }
    t.configured = .loading (some ⟨none, 0, false⟩) ∧ t.slc.drive = [false, false, false, false, false, false] := by
  decide +kernel

/-- R212: a rise hold with 400 ms left is carried as 400 = 0190h. -/
theorem test_rise_hold_is_remaining_time :
    timerBytes 2 100 (some 500) = [0x01, 0x90] ∧ timerBytes 2 100 none = [0xFF, 0xFF] := by decide

-- Witnesses: for every statement with hypotheses, states and operands that meet them, clause by clause.

theorem served_serves : Serves demo served := ⟨rfl, rfl⟩

/-- O2: nothing due; one event due; two events due. -/
theorem witness_IdleStepTakesAnEventOrTime :
    dueEvents State.reset = [] ∧ State.reset.pending = [] ∧ dueEvents { State.reset with clockTickDue := true } = [.tariffClockAdvance] ∧
      2 ≤ (dueEvents { withA (sessionIn .dispensing) with clockTickDue := true, outB := sessionIn .starting, slc.slot := .deferred 0 }).length := by
  decide +kernel

/-- O2: RUNNING with no command executing, and LOADING with a read; a tick that counts the parked time and the dwell clock, below and at
the end of their ranges, and 0.1 ms that is no tick. -/
theorem witness_IdleStepTakesAnEventOrTime_time :
    let p := sessionIn .parked
    let d := sessionIn .dwell
    let s := { withA { p with grl := { p.grl with parkedMs := 4294967294 } } with
      outB := { d with acc := { d.acc with dwellClock := 4294967294 } }, phase := 9 }
    s.configured = .running demo ∧ s.hpt.captured = none ∧ fitted demo .a = true ∧ fitted { demo with outlets := 1 } .b = false ∧
      9 ≤ s.phase ∧ ¬9 ≤ served.phase ∧ s.outA.osc.state = .parked ∧ s.outA.grl.parkedMs < 4294967295 ∧
      s.outB.osc.state = .dwell ∧ s.outB.acc.stopped = false ∧ s.outB.acc.dwellClock < 4294967295 ∧
      (advance s).outA.grl.parkedMs = 4294967295 ∧ (advance (advance { s with phase := 8 })).outB.acc.dwellClock = 4294967295 ∧
      { served with configured := .loading (some ⟨none, 3, false⟩) }.configured = .loading (some ⟨none, 3, false⟩) := by
  decide +kernel

/-- O6: a queue of one record, and a step from it. -/
theorem witness_QueueAndRecordsStaySound :
    let s := { served with stu := ⟨[record 0], 1, []⟩, pending := [.nop] }
    QueueNumbered s ∧ RecordsSettled s ∧ ∃ t, step s = .next t := by
  refine ⟨⟨by decide, fun i r h => ?_⟩, ⟨fun r h => ?_, fun o r h => ?_⟩, ⟨_, rfl⟩⟩
  · match i, h with
    | 0, h => obtain rfl := Option.some.inj h; decide +kernel
  · obtain rfl := List.mem_singleton.mp h
    unfold RecordSettled
    decide +kernel
  · cases o <;> exact absurd (show none = some r from h) (by simp)

/-- O7 and O12: an ISOLATED station with a setpoint of 900 at outlet A and a rise pending. -/
def granted : State :=
  let u := sessionIn .dispensing
  { withA { u with grl := { u.grl with commanded := 900, inEffect := 900, target := 1500, pending := some 1500 } } with
    prs.mode := .isolated, shc := ⟨2875, 2875, false⟩, pending := [.eStopAsserted] }

theorem witness_GrantsStaySafe : GrantsSafe granted ∧ ∃ t, step granted = .next t := by
  refine ⟨⟨⟨fun h => absurd h (by decide +kernel), by decide +kernel, by decide +kernel, fun h => absurd h (by decide +kernel),
    fun p h => ?_⟩, ⟨fun h => absurd h (by decide +kernel), by decide +kernel, by decide +kernel, by decide +kernel,
    fun p h => absurd h (by simp [granted, withA, served, State.reset, OutletState.reset, Grl.reset])⟩, by decide +kernel⟩, ⟨_, rfl⟩⟩
  obtain rfl := Option.some.inj (show some 1500 = some p from h)
  decide +kernel

theorem witness_IsolationCapStays : CapKept granted := ⟨by decide +kernel, fun _ => by decide +kernel⟩

/-- O8: an outlet in OPEN WAIT with its close timer running. -/
theorem witness_DrivesFollowTheStates :
    let s := withA { (closing .openWait 0 false true).outA with osc.driveClosed := false }
    SessionsSafe s ∧ ∃ t, step { s with pending := [.feedbackOpen .a] } = .next t := by
  refine ⟨⟨by unfold OutletDrive; decide +kernel, by unfold OutletDrive; decide +kernel, by decide +kernel, fun o => ?_⟩, ⟨_, rfl⟩⟩
  cases o <;> decide +kernel

/-- O9: a session bound to bank A with its version, that a step leaves in session. -/
theorem witness_BoundBankStays :
    let s := { withA (sessionIn .parked) with pending := [.tariffLoad 0 (vecOf 57 (bankBytes bank))] }
    BoundBankKept s ∧ inSession s.outA.osc.state = true ∧ s.outA.tru.binding = some .a ∧
      ∃ t, step s = .next t ∧ inSession t.outA.osc.state = true := by
  refine ⟨fun o => ⟨by cases o <;> rfl, by cases o <;> exact fun x h => h, fun h => ?_⟩, by decide, rfl, ⟨_, rfl, by decide +kernel⟩⟩
  cases o
  · exact ⟨.a, bank, rfl, rfl, rfl⟩
  · exact absurd h (by decide +kernel)

/-- O10: the park of four, in which the tick ages a FRESH and a STALE entry. -/
theorem witness_RosterStaysSafe : RosterSafe park ∧ ∃ t, step { park with pending := [.sharePeriodTick] } = .next t := by
  refine ⟨⟨by decide +kernel, by decide +kernel, by decide +kernel, ?_, by decide +kernel, by decide +kernel, by decide +kernel,
    by decide +kernel, .inl rfl, by decide +kernel⟩, ⟨_, rfl⟩⟩
  unfold EntryOk ClaimOk
  decide +kernel

/-- O11: an own LEAVE on the line with fifteen bit errors behind it. -/
theorem witness_LineStaysSafe :
    let s := { served with slc := { Slc.reset with slot := .sending (.leave 3), bitErrorRun := 15 }, pending := [.bitError] }
    LineSafe s ∧ ∃ t, step s = .next t := by
  refine ⟨⟨by decide, by decide, by decide, by decide, by decide, by decide, by decide, by decide, by decide, by decide, by decide,
    fun h => absurd rfl (h demo)⟩, ⟨_, rfl⟩⟩

/-- O13: the park of four after its computation. -/
theorem witness_ShareFollowsItsInputs :
    let s := { computation demo park with pending := [.meterPulse .a] }
    ShareCurrent s ∧ HandedOver s ∧ ∃ t, step s = .next t := by
  refine ⟨fun im h => ?_, fun im o h _ => ?_, ⟨_, rfl⟩⟩
  · obtain rfl := Configured.running.inj (show Configured.running demo = .running im from h)
    decide +kernel
  · cases o <;> decide +kernel

/-- O14: accounts with one segment, a fee and no saturation. -/
theorem witness_AccountsStayExact :
    let u := sessionIn .dispensing
    let s := withA { u with acc := accrue 10 50 ⟨.found, 500, .window 0⟩ .cleared }
    AccountsSafe s ∧ ∃ t, step { s with pending := [.meterPulse .a] } = .next t := by
  refine ⟨⟨fun im h => ?_, ⟨by decide +kernel, ?_, by decide +kernel, by decide +kernel, by decide +kernel, by decide +kernel,
    by decide +kernel, by decide +kernel, by decide +kernel⟩, ⟨by decide +kernel, ?_, by decide +kernel, by decide +kernel,
    by decide +kernel, by decide +kernel, by decide +kernel, by decide +kernel, by decide +kernel⟩⟩, ⟨_, rfl⟩⟩
  · obtain rfl := Configured.running.inj (show Configured.running demo = .running im from h)
    decide +kernel
  · intro g hg i hi
    obtain rfl := List.mem_singleton.mp (show g ∈ [⟨.window 0, 10, 5000⟩] from hg)
    cases hi
    decide
  · intro g hg
    exact absurd hg (by simp [withA, served, State.reset, OutletState.reset, Accounts.cleared])

/-- O15: the reset line is released from LOADING with no read, and from RUNNING; it is asserted in a transaction answered PENDING, and in
one that an earlier reset fell into. -/
theorem witness_PowerOnAndTheResetLine :
    State.reset.configured = .loading none ∧ served.configured ≠ .loading none ∧
      (after .resetLineAsserted { served with hpt.pendingOpen := true }).hpt.underWay = false ∧
      (after .resetLineAsserted { served with hpt.underWay := true }).hpt.underWay = true := by
  decide +kernel

/-- O16: a read in its first pass and in its second, with each way to fail, and a pass one ms below its limit and at it. -/
theorem witness_FailedReadLeavesUnconfigured :
    let read : ConfigRead := ⟨none, 99, false⟩
    { State.reset with configured := .loading (some read) }.configured = .loading (some read) ∧ read.failed = false ∧
      read.firstPass = none ∧ ¬100 ≤ read.elapsed ∧ 100 ≤ { read with elapsed := 100 }.elapsed ∧
      { read with failed := true }.failed = true ∧ { read with firstPass := some demoImage }.firstPass = some demoImage ∧
      badImage ≠ demoImage ∧ validImage badImage.toList = none := by
  decide +kernel

/-- O17: a valid image with nothing granted, in LOADING and UNCONFIGURED; and one that is not valid. -/
theorem witness_ValidImageEntersRunning :
    let s := { unset with configured := .loading (some ⟨some demoImage, 3, false⟩) }
    validImage demoImage.toList = some demo ∧ (AtRest unset.outA ∧ AtRest unset.outB ∧ AtRest s.outA ∧ AtRest s.outB) ∧
      unset.configured = .unconfigured ∧ s.configured = .loading (some ⟨some demoImage, 3, false⟩) ∧ Serves demo served ∧
      validImage badImage.toList = none := by
  refine ⟨by decide +kernel, ?_, rfl, rfl, served_serves, by decide +kernel⟩
  unfold AtRest
  decide +kernel

/-- O18: both outlets IDLE with the transmitter ON and BARRED, one outlet in session, and the LEAVE on the line with its timer run out. -/
theorem witness_RestartLeavesAndReinitialises :
    Serves demo served ∧ served.outA.osc.state = .idle ∧ served.outB.osc.state = .idle ∧ served.slc.tx = .on ∧
      { served with slc.tx := .barred }.slc.tx ≠ .on ∧ (withA (sessionIn .starting)).outA.osc.state ≠ .idle ∧
      (let s := { served with slc := { Slc.reset with leaveWait := true, leaveTimer := some 9, slot := .sending (.leave 1) } };
        s.configured = .running demo ∧ s.slc.leaveTimer.isSome = true ∧ sendingLeave s = true ∧ s.slc.tx = .on ∧
          sendingLeave { s with slc.slot := .due .leave } = false ∧ sending { s with slc.leaveExpired := true } = true) := by
  refine ⟨served_serves, ?_⟩
  decide +kernel

/-- O19: a command executing, a transaction answered PENDING, one that a reset fell into, and none of these. -/
theorem witness_TransactionsAreTakenOrAnsweredPending :
    { served with hpt.underWay := true }.hpt.underWay = true ∧ served.hpt.underWay = false ∧
    { served with hpt.captured := some [1, 0, 0] }.hpt.captured ≠ none ∧
      { served with hpt.pendingOpen := true }.hpt.pendingOpen = true ∧ served.hpt.pendingOpen = false ∧
      served.configured = .running demo ∧ served.hpt.captured = none ∧ served.slc.leaveWait = false ∧
      State.reset.configured = .loading none ∧ { unset with hpt.captured := some [1, 0, 0] }.hpt.captured ≠ none ∧
      { served with slc.leaveWait := true }.slc.leaveWait = true ∧ commandOf [1, 0, 0] = .nop ∧ Instr.nop ≠ .status := by
  decide +kernel

/-- O20: a host command while LOADING and UNCONFIGURED, and a message for each refusal. -/
theorem witness_CommandsThatAreNotServed :
    commandCode .restart = some 18 ∧ State.reset.configured = .loading none ∧ unset.configured = .unconfigured ∧
      18 ∉ [1, 2, 4, 16] ∧ Serves demo served ∧ payloadLength 5 = some 3 ∧ u16At [5, 0, 2, 0, 0] 1 ≠ 3 ∧
      u16At [5, 0, 3, 0, 0] 1 = 3 ∧ [(5 : Byte), 0, 3, 0, 0].length < 3 + 3 := by
  refine ⟨rfl, rfl, rfl, by decide, served_serves, ?_⟩
  decide +kernel

/-- O21: operands on each side of every bound, and a queue with and without a record. -/
theorem witness_ReadingCommandsOnlyAnswer :
    Serves demo served ∧ outletOf 1 = some .b ∧ bankOf 0 = some .a ∧ fitted demo .b = true ∧
      fitted { demo with outlets := 1 } .b = false ∧ (2 : Byte).toNat > 1 ∧ (32 : Byte).toNat > 31 ∧ (31 : Byte).toNat ≤ 31 ∧
      served.stu.queue = [] ∧ { served with stu.queue := [record 0] }.stu.queue = record 0 :: [] ∧
      entryOf park.prs.roster 31 = none ∧ (entryOf park.prs.roster 2).isSome = true ∧ (record 0).bound = some (.a, 7) ∧
      { record 0 with bound := none }.bound = none ∧
      (let u := { sessionIn .dispensing with acc := accrue 10 50 ⟨.found, 500, .window 0⟩ .cleared };
        (buildRecord .a u).segments[0]? = some ⟨.window 0, 10, 5000⟩) := by
  refine ⟨served_serves, ?_⟩
  decide +kernel

/-- O22: the last second of the week and the first value past it; a SET and an UNSET clock. -/
theorem witness_TariffClockIsSetAndAdvances :
    Serves demo served ∧ (10079 : BitVec 16).toNat ≤ 10079 ∧ (59 : Byte).toNat ≤ 59 ∧ 10079 < (10080 : BitVec 16).toNat ∧
      served.tru.clock.set = true ∧ served.tru.clock.minute < 10080 ∧ State.reset.tru.clock.set = false := by
  refine ⟨served_serves, ?_⟩
  decide +kernel

/-- O23: a bank that is free, bound, LOADED and EMPTY; an image with a window that loads and one with a slot of 96. -/
theorem witness_BanksAreLoadedAndSelected :
    Serves demo served ∧ bankOf 1 = some .b ∧ bankInUse (withA (sessionIn .dwell)) .a = true ∧ bankInUse served .b = false ∧
      bankLoads (bankItems (bankBytes bank)) = true ∧
      bankLoads { bank with windows := bank.windows.set 7 ⟨true, 0, 1, 0, 96, 1, 0⟩ } = false ∧ served.tru.bank .a ≠ none ∧
      served.tru.bank .b = none := by
  refine ⟨served_serves, ?_⟩
  decide +kernel

/-- O24: event sets with and without a sixteenth member. -/
theorem witness_EventsAndTheEnableSet :
    Serves demo served ∧ (0x8000 : BitVec 16).getLsbD 15 = true ∧ (0x7FFF : BitVec 16).getLsbD 15 = false ∧
      unset.configured = .unconfigured := by
  refine ⟨served_serves, ?_⟩
  decide +kernel

/-- O25: an empty queue, one record with nobody waiting, and a full queue with outlet A waiting. -/
theorem witness_RecordReleaseServesTheNextOutlet :
    let s := { withA { sessionIn .settleWait with heldRecord := some (record 0) } with
      stu := ⟨record 0 :: (List.replicate 7 (record 1)), 8, [.a]⟩ }
    Serves demo s ∧ s.stu.settleWait = .a :: [] ∧ s.outA.heldRecord = some (record 0) ∧ s.outA.osc.state = .settleWait ∧
      fitted demo .a = true ∧ s.stu.queue.tail.length = 7 ∧ served.stu.queue = [] ∧ served.stu.settleWait = [] := by
  refine ⟨⟨rfl, rfl⟩, ?_⟩
  decide +kernel

/-- O26: every refusal of OPEN SESSION and an acceptance, with the operands at their bounds. -/
theorem witness_OpenSessionIsRefusedInOrder :
    Serves demo served ∧ outletOf 0 = some .a ∧ (1000000 : BitVec 32).toNat ≤ 1000000 ∧ ¬(1000001 : BitVec 32).toNat ≤ 1000000 ∧
      (3 : Byte).toNat ≤ 3 ∧ { served with hpt.flags := 1 }.flagSet .restart = true ∧ served.flagSet .restart = false ∧
      fitted demo .a = true ∧ fitted { demo with outlets := 1 } .b = false ∧ (withA (sessionIn .closing)).outA.osc.state ≠ .idle ∧
      served.outA.osc.state = .idle ∧ { served with eStop.level := true }.eStop.level = true ∧ served.eStop.level = false ∧
      served.outA.fault.level = false ∧ served.outA.feedback.level = false ∧ served.tru.bank served.tru.selected ≠ none ∧
      { served with tru.selected := .b }.tru.bank .b = none := by
  refine ⟨served_serves, ?_⟩
  decide +kernel

/-- O27: an accepted OPEN SESSION. -/
theorem witness_OpenSessionStartsASession :
    Serves demo served ∧ outletOf 0 = some .a ∧ 1 ≤ (1 : BitVec 32).toNat ∧ (3 : Byte).toNat ≤ 3 ∧
      served.flagSet .restart = false ∧ fitted demo .a = true ∧ served.outA.osc.state = .idle ∧ served.eStop.level = false ∧
      served.outA.fault.level = false ∧ served.outA.feedback.level = false ∧
      served.tru.bank served.tru.selected = some bank := by
  refine ⟨served_serves, ?_⟩
  decide +kernel

/-- O28: SET DEMAND in each state, with the complete flag clear and set, and a demand of 0 and above the rating in DWELL. -/
theorem witness_SetDemandReplacesTheDemand :
    Serves demo (withA (sessionIn .parked)) ∧ (withA (sessionIn .parked)).outA.osc.state ∈ [.starting, .dispensing, .parked] ∧
      (withA (sessionIn .dwell)).outA.osc.state = .dwell ∧ (withA (sessionIn .tripped)).outA.osc.state = .tripped ∧
      min (0 : BitVec 16).toNat (pOut demo .a) = 0 ∧ 1 ≤ min (4000 : BitVec 16).toNat (pOut demo .a) ∧
      outletOf 0 = some .a ∧ fitted demo .a = true ∧ (1 : Byte).toNat ≤ 1 := by
  refine ⟨⟨rfl, rfl⟩, ?_⟩
  decide +kernel

/-- O29: CLOSE SESSION with an output that is up, in TRIPPED with FEEDBACK closed, in STARTING with it open, and in IDLE. -/
theorem witness_CloseSessionBeginsTheClose :
    let u := sessionIn .dispensing
    let s := withA { u with grl.commanded := 900 }
    Serves demo s ∧ s.outA.osc.state ≠ .tripped ∧ s.outA.grl.commanded ≠ 0 ∧
      (withA { sessionIn .tripped with feedback := .at true }).outA.feedback.level = true ∧
      (withA (sessionIn .starting)).outA.feedback.level = false ∧ (withA (sessionIn .starting)).outA.grl.commanded = 0 ∧
      (withA (sessionIn .starting)).outA.grl.unconfirmed = false ∧ served.outA.osc.state = .idle := by
  refine ⟨⟨rfl, rfl⟩, ?_⟩
  decide +kernel

/-- O30: STARTING with one of the two conditions met, from either side, and with none. -/
theorem witness_StartConditionEntersDispensing :
    let u := withA { sessionIn .starting with feedback := .at true }
    let v := withA { sessionIn .starting with hold := .at false }
    u.configured = .running demo ∧ fitted demo .a = true ∧ u.outA.osc.state = .starting ∧ u.outA.hold.level = true ∧
      u.outA.feedback.level = true ∧ v.outA.osc.state = .starting ∧ v.outA.hold.level = false ∧ v.outA.feedback.level = false := by
  decide +kernel

/-- O31: a trippable outlet with its three timers running and no FAULT, and one that is not trippable. -/
theorem witness_EachCauseTripsATrippableOutlet :
    let f := fun x : Session => { sessionIn x with
      osc := { (sessionIn x).osc with mismatchTimer := some 1, startTimer := some 1 }, grl.confirmTimer := some 1 }
    let s := withA (f .starting)
    s.configured = .running demo ∧ fitted demo .a = true ∧ s.outA.fault.level = false ∧
      s.outA.osc.mismatchTimer.isSome = true ∧ s.outA.osc.startTimer.isSome = true ∧ s.outA.grl.confirmTimer.isSome = true ∧
      s.outA.osc.state ∈ [.starting, .dispensing, .parked, .dwell, .exhausted] ∧ (withA (f .tripped)).outA.osc.state = .tripped := by
  decide +kernel

/-- O32: E-STOP released with outlet A trippable and outlet B not. -/
theorem witness_EStopTripsEveryTrippableOutlet :
    let s := withA { sessionIn .dispensing with feedback := .at true }
    s.configured = .running demo ∧ s.eStop.level = false ∧ fitted demo .a = true ∧ trippable s.outA.osc = true ∧
      trippable s.outB.osc = false ∧ s.grl.riseWaiting = false ∧ s.outA.feedback.level = true := by
  decide +kernel

/-- O33: each of the four levels recognised. -/
theorem witness_ReleasedLevelsChangeNothingElse :
    let u := OutletState.reset
    let s := { served with
      eStop := .at true, outB := { u with fault := .at true, settled := .at true, mtf.pulse := .at true } }
    s.configured = .running demo ∧ fitted demo .b = true ∧ s.eStop.level = true ∧ s.outB.fault.level = true ∧
      s.outB.settled.level = true ∧ s.outB.mtf.pulse.level = true := by
  decide +kernel

/-- O34: FEEDBACK closed in OPEN WAIT with the close timer running, in TRIPPED, under a closed drive and an open one. -/
theorem witness_FeedbackOpenCompletesTheClose :
    let s := closing .openWait 0 false true
    let t := withA { sessionIn .tripped with feedback := .at true }
    s.configured = .running demo ∧ fitted demo .a = true ∧ s.outA.osc.state = .closing ∧ s.outA.osc.closePhase = some .openWait ∧
      s.outA.feedback.level = true ∧ s.outA.osc.closeTimer.isSome = true ∧ t.outA.osc.state = .tripped ∧
      (withA (sessionIn .dwell)).outA.osc.driveClosed = true ∧ served.outA.osc.driveClosed = false := by
  decide +kernel

/-- O36: claimants whose demands fit the amount, and do not: in the first round nobody settles, or one of them. -/
theorem witness_WaterFillDividesTheAmount :
    (∀ c ∈ [(⟨some .a, 3294, 2⟩ : Claimant), ⟨none, 3000, 1⟩], 1 ≤ c.demand ∧ 1 ≤ c.weight) ∧
      demandSum [⟨some .a, 3294, 2⟩, ⟨none, 3000, 1⟩] ≤ 6294 ∧ 6293 < demandSum [⟨some .a, 3294, 2⟩, ⟨none, 3000, 1⟩] ∧
      6293 * 3294 * 2 / (3294 * 2 + 3000) = 4323 ∧ 6293 * 3000 / (3294 * 2 + 3000) = 1969 ∧
      waterFill 6293 [⟨some .a, 3294, 2⟩, ⟨none, 3000, 1⟩] = [(⟨some .a, 3294, 2⟩, 3294), (⟨none, 3000, 1⟩, 2999)] ∧
      waterFill 4000 [⟨some .a, 3294, 2⟩, ⟨none, 3000, 1⟩] = [(⟨some .a, 3294, 2⟩, 2748), (⟨none, 3000, 1⟩, 1251)] := by
  decide +kernel

/-- O37: both outlets DISPENSING within the pedestal rating; outlet A PARKED, and an outlet B that is not fitted; and A with STALE entries in
JOINED, and where they stand behind more than there is. -/
theorem witness_TargetsStayWithinTheSplits :
    let s := { withA (sessionIn .dispensing) with outB := sessionIn .dispensing }
    s.outA.osc.state = .dispensing ∧ s.outB.osc.state = .dispensing ∧ rawDemand demo s .a + rawDemand demo s .b ≤ demo.pMax ∧
      fitted demo .a = true ∧ (withA (sessionIn .parked)).outA.osc.state = .parked ∧ fitted { demo with outlets := 1 } .b = false ∧
      siteBusy demo (compute demo park) = true ∧ siteBusy demo served = false ∧
      (∃ e ∈ park.prs.roster, e.fresh = false) ∧ park.prs.mode = .joined ∧ availablePower demo park ≠ 0 ∧
      rawDemand demo park .a = 3500 ∧ rawDemand demo (withA (sessionIn .parked)) .a = 1500 ∧ rawDemand demo served .a = 0 ∧
      splitDemand demo park none .a = 3294 ∧ siteShare demo park none .b = 538 ∧
      availablePower demo { park with prs.lEff := 500 } = 0 ∧ { park with prs.mode := .isolated }.prs.mode ≠ .joined := by
  decide +kernel

/-- Two rises pending behind an expired hold, outlet B leading, in a park with little room. -/
def rising : State :=
  let u := sessionIn .dispensing
  let f := fun n p => { u with grl := { u.grl with commanded := n, inEffect := n, target := p, pending := some p } }
  { park with outA := f 900 1500, outB := f 1000 1200, grl := ⟨some 0, false, [.b, .a]⟩ }

/-- O38 and O39: the evaluation raises; a decrease unconfirmed makes the rises wait. -/
theorem witness_RiseEvaluationStaysWithinTheHeadroom :
    Outlet.b ≠ .a ∧ rising.grl.order = [.b, .a] ∧ (∀ p, rising.outA.grl.pending = some p → rising.outA.grl.commanded < p) ∧
      (∀ p, rising.outB.grl.pending = some p → rising.outB.grl.commanded < p) ∧ rising.configured = .running demo ∧
      rising.grl.riseHold.isSome = true ∧ rising.outA.grl.unconfirmed = false ∧ rising.outB.grl.unconfirmed = false ∧
      { rising with outA.grl.unconfirmed := true }.outA.grl.unconfirmed = true := by
  refine ⟨by decide, by decide +kernel, fun p h => ?_, fun p h => ?_, by decide +kernel⟩
  · obtain rfl := Option.some.inj (show some 1500 = some p from h)
    decide +kernel
  · obtain rfl := Option.some.inj (show some 1200 = some p from h)
    decide +kernel

/-- O39: a rise applied in JOINED and in ISOLATED, a STALE entry of 2500 in the headroom, and a headroom that would be negative. -/
theorem witness_AppliedRiseFitsWhatThePeersStandBehind :
    let after := evaluateRises demo rising
    rising.outA.grl.commanded + rising.outB.grl.commanded < after.outA.grl.commanded + after.outB.grl.commanded ∧
      rising.prs.mode = .joined ∧ headroom demo rising = 3825 ∧ headroom demo { rising with prs.lEff := 5000 } = 0 ∧
      (let s := { rising with prs.mode := .isolated };
        s.prs.mode ≠ .joined ∧
          s.outA.grl.commanded + s.outB.grl.commanded <
            (evaluateRises demo s).outA.grl.commanded + (evaluateRises demo s).outB.grl.commanded) := by
  decide +kernel

/-- O40: a word with and without a further one owed, a park hold running, and the ends of the setpoint's range. -/
theorem witness_WordsEndAndParkHoldsExpire :
    let u := sessionIn .parked
    let s := withA { u with grl := { u.grl with word := some 5, wordAgain := true, parkHold := .running 10 } }
    s.configured = .running demo ∧ fitted demo .a = true ∧ s.outA.grl.word.isSome = true ∧ s.outA.grl.wordAgain = true ∧
      s.outA.grl.parkHold = .running 10 ∧ { s with outA.grl.wordAgain := false }.outA.grl.wordAgain = false ∧
      u.grl.word = none ∧ { u.grl with word := some (setptWord 65535) }.word = some (setptWord 65535) ∧ 65535 < 65536 ∧
      (setpointWord 65535).extractLsb' 8 16 = 0xFFFF ∧ (setpointWord 0).extractLsb' 8 16 = 0 := by
  decide +kernel

/-- A confirmation of 50 kW, down from 100, that releases the rise back to 100; the last ANNOUNCE carried 100. -/
def toAndFro : State :=
  let u := sessionIn .dispensing
  let s := { withA { u with grl := { u.grl with
      commanded := 500, inEffect := 1000, target := 1000, pending := some 1000, unconfirmed := true } } with
    grl := ⟨none, true, [.a]⟩, now := 20 }
  { s with slc.reference := some (announced demo s), slc.lastDone := some 10 }

/-- R8, R70, R74 and R78: the lower grant is an update, though the rise brings the values back within the event; the slot is DEFERRED to
a quarter period of 125 ms after the last completion. -/
theorem test_to_and_fro_is_an_update :
    let t := after (.confirmation .a) toAndFro
    announced demo t = announced demo toAndFro ∧ t.outA.grl.inEffect = 1000 ∧ t.slc.slot = .deferred 135 := by decide +kernel

/-- O41: the slot EMPTY, with the lowering an update; with the rise one alone, as the lower values are those of the last ANNOUNCE; and with
neither, as nothing is lowered or raised. -/
theorem witness_ConfirmationLowersTheGrant_update :
    let lower := { toAndFro with outA.grl.inEffect := 500 }
    let rise := { toAndFro with slc.reference := some (announced demo lower) }
    let none := { lower with grl.riseWaiting := false }
    toAndFro.slc.slot = .empty ∧ toAndFro.slc.leaveWait = false ∧ toAndFro.slc.tx ≠ .barred ∧
      announced demo lower ≠ announced demo toAndFro ∧ toAndFro.slc.reference ≠ some (announced demo lower) ∧
      (after (.confirmation .a) rise).slc.slot = .deferred 135 ∧ (after (.confirmation .a) none).slc.slot = .empty ∧
      (after (.confirmation .a) { toAndFro with slc.slot := .due .leave }).slc.slot = .due .leave := by
  decide +kernel

/-- O41: SETTLED low with a decrease unconfirmed and no word, outside and in the OUTPUT WAIT of a close; and a word still sent. -/
theorem witness_ConfirmationLowersTheGrant :
    let u := sessionIn .dispensing
    let s := withA { u with grl := { u.grl with commanded := 900, inEffect := 2000, unconfirmed := true } }
    s.configured = .running demo ∧ fitted demo .a = true ∧ s.outA.settled.level = false ∧ s.outA.grl.unconfirmed = true ∧
      s.outA.grl.word = none ∧ s.outA.grl.earlierRise = false ∧ { s with outA.grl.word := some 5 }.outA.grl.word ≠ none ∧
      (let t := closing .outputWait 0 true false;
        t.outA.osc.state = .closing ∧ t.outA.osc.closePhase = some .outputWait ∧ t.outA.grl.commanded = 0 ∧
          t.outA.grl.unconfirmed = true ∧ t.outA.grl.word = none ∧ t.outA.feedback.level = false) ∧
      (closing .outputWait 0 true true).outA.feedback.level = true := by
  decide +kernel

/-- O42: a target below the floor, below, above and at the setpoint; a park hold expired with and without room. -/
theorem witness_HandOverFollowsTheTarget :
    let u := sessionIn .dispensing
    let f := fun c target => { u with grl.commanded := c, share.target := target }
    fitted demo .a = true ∧ (f 0 599).share.target < u.osc.header.floor ∧ u.osc.header.floor ≤ (f 900 600).share.target ∧
      (f 900 600).share.target < (f 900 600).grl.commanded ∧ (f 900 901).grl.commanded < (f 900 901).share.target ∧
      (f 900 900).grl.commanded = (f 900 900).share.target ∧
      (let p := { sessionIn .parked with grl.parkHold := .expired, share.hypothetical := some 700 };
        p.osc.state = .parked ∧ p.grl.parkHold = .expired ∧ p.share.hypothetical = some 700 ∧
          p.osc.header.floor + demo.resumeMargin ≤ 700 ∧ ¬p.osc.header.floor + demo.resumeMargin ≤ 699) := by
  decide +kernel

/-- O42: a hand-over that leaves a pending rise starts a stopped hold, restarts none and starts none while a rise waits; one that leaves
none stops it; outlet B is not fitted. -/
theorem witness_HandOverFollowsTheTarget_riseHold :
    let u := sessionIn .dispensing
    let f := fun target hold waiting => handOver demo
      { withA { u with share.target := target, grl.commanded := 600, grl.inEffect := 600 } with
        grl := ⟨hold, waiting, [.a]⟩, now := 7 }
    (f 900 none false).outA.grl.pending = some 900 ∧ (f 900 none false).grl.riseHold = some 507 ∧
      (f 900 (some 9) false).grl.riseHold = some 9 ∧ (f 900 none true).grl.riseHold = none ∧
      (f 600 (some 9) false).outA.grl.pending = none ∧ (f 600 (some 9) false).grl.riseHold = none ∧
      fitted { demo with outlets := 1 } .b = false := by
  decide +kernel

/-- Log 21: outlet A parks with the last pending rise while outlet B is given its first; the hold that runs goes on. -/
theorem test_hold_outlives_a_parking :
    let u := sessionIn .dispensing
    let t := handOver demo
      { withA { u with share.target := 500, grl := { u.grl with target := 900, pending := some 900 } } with
        outB := { u with share.target := 900 }, grl := ⟨some 9, false, [.a, .b]⟩ }
    t.outA.osc.state = .parked ∧ t.outA.grl.pending = none ∧ t.outB.grl.pending = some 900 ∧ t.grl.riseHold = some 9 := by
  decide +kernel

/-- O43: a pulse at an IDLE outlet and one in SETTLE_WAIT; a capture in TIMING. -/
theorem witness_StrayPulsesAndNoFlow :
    served.configured = .running demo ∧ fitted demo .b = true ∧ served.outB.mtf.pulse.level = false ∧
      served.outB.osc.state = .idle ∧ (withA (sessionIn .settleWait)).outA.osc.state = .settleWait ∧
      (withA { sessionIn .dwell with mtf := { Mtf.reset with capture := .timing } }).outA.mtf.capture = .timing := by
  decide +kernel

/-- O44: a billed pulse in DISPENSING with and without the credit reached, before and in TIMING, with and without the over-draw limit. -/
theorem witness_BilledPulseIsAccruedAndTested :
    let u := sessionIn .dispensing
    let s := withA u
    let p := lookup demo s.tru.clock s.shc.busy 1 bank
    let acc := fun a => accrue 10 50 p a
    let m := { u.mtf with capture := .timing, counter := 1200, reseed := true, overDraw := 2 }
    s.configured = .running demo ∧ fitted demo .a = true ∧ u.mtf.pulse.level = false ∧ inSession u.osc.state = true ∧
      u.tru.binding = some .a ∧ s.tru.bank .a = some bank ∧ u.mtf.capture = .waiting ∧
      ¬((5000 * 10000 : Int) - 100 * p.price ≤ ((acc .cleared).total : Int)) ∧
      ((5000 * 10000 : Int) - 100 * p.price ≤ ((acc { Accounts.cleared with total := 50000000 }).total : Int)) ∧
      m.capture = .timing ∧ u.grl.unconfirmed = false ∧
      u.grl.inEffect + demo.tolerance < smooth 2 true 0 (min 65535 (10 * 360000 / max 1 m.counter)) ∧
      demo.overDrawLimit ≤ m.overDraw + 1 ∧ 0 < demo.overDrawLimit ∧ u.grl.commanded = 0 ∧
      { u.grl with commanded := 900 }.commanded ≠ 0 ∧ trippable u.osc = true ∧
      trippable (sessionIn .tripped).osc = false ∧ inSession .tripped = true := by
  decide +kernel

/-- O45: the shortest interval, and both ends of the range of an estimate. -/
theorem witness_EstimatesAreSmoothed :
    1 ≤ 1 ∧ (65535 : Nat) ≤ 65535 ∧ smooth 4 false 65535 0 = 61440 ∧ { Mtf.reset with reseed := true }.reseed = true ∧
      Mtf.reset.reseed = false := by
  decide +kernel

/-- O46: an UNSET clock; a key that no window, one window and two windows of a bank fit. -/
theorem witness_LookupFindsTheOneWindow :
    let twice := { bank with windows := bank.windows.set 7 ⟨true, 0, 3, 0, 95, 15, 900⟩ }
    let night := { bank with windows := bank.windows.set 0 ⟨true, 0, 3, 88, 7, 15, 500⟩ }
    (lookup demo ⟨false, 0, 0, 0⟩ false 1 bank).outcome = .clockUnset ∧
      (lookup demo ⟨true, 10079, 0, 0⟩ false 1 night) = ⟨.found, 500, .window 0⟩ ∧
      (lookup demo ⟨true, 600, 0, 0⟩ false 1 night).outcome = .noWindow ∧
      (lookup demo ⟨true, 600, 0, 0⟩ false 1 twice).outcome = .overlap ∧ isTariffFault .overlap = true ∧
      isTariffFault .found = false ∧ isTariffFault .none = false ∧
      recordLookup ⟨.overlap, 650, .fallback⟩ TruOutlet.reset =
        ⟨none, .overlap, some 650, some .fallback, false, true, false⟩ := by
  decide +kernel

/-- O47: a pulse within the energy limit, and the first past it; accounts with one segment for each key; an amount that saturates and
one that just does not. -/
theorem witness_AccrualAddsThePulse :
    let a := fun amount => { Accounts.cleared with segments := [⟨.window 0, 10, amount⟩, ⟨.fallback, 10, 0⟩] }
    let f := fun amount => accrue 10 0 ⟨.found, 500, .window 0⟩ (a amount)
    4294967285 + 10 ≤ 4294967295 ∧ 4294967295 < 4294967286 + 10 ∧ ((a 0).segments.map Segment.key).Nodup ∧
      (f 1099511622775).saturated = false ∧ (f 1099511622776).saturated = true ∧
      (f 1099511622776).segments = [⟨.window 0, 20, 1099511627775⟩, ⟨.fallback, 10, 0⟩] := by
  decide +kernel

/-- O48: a dwell minute within the grace of 2, the first past it, and one at the cap. -/
theorem witness_DwellMinuteIsCharged :
    let s := withA (sessionIn .dwell)
    s.configured = .running demo ∧ fitted demo .a = true ∧ s.outA.osc.state = .dwell ∧ s.outA.acc.stopped = false ∧
      s.outA.tru.binding = some .a ∧ s.tru.bank .a = some bank ∧ 1 + 1 ≤ bank.grace.toNat ∧ bank.grace.toNat < 2 + 1 ∧
      s.outA.acc.total < s.outA.osc.header.hold * 10000 ∧ s.outA.osc.header.hold * 10000 ≤ 50000000 := by
  decide +kernel

/-- O49: a DUE slot on an idle line, and a DEFERRED one. -/
theorem witness_AttemptStartSendsTheDueFrame :
    let s := { served with slc := { Slc.reset with slot := .due .announce, lineIdle := true } }
    s.configured = .running demo ∧ s.slc.slot = .due .announce ∧ s.slc.tx = .on ∧ s.slc.lineIdle = true ∧
      { served with slc.slot := .deferred 125 }.slc.slot = .deferred 125 := by
  decide +kernel

/-- O49: a trip that takes the claim of an outlet away, with the slot EMPTY and the last completion 124 and 125 ms ago, where a quarter
period is 125; and with the slot DUE, in the LEAVE wait, and BARRED. -/
theorem witness_AttemptStartSendsTheDueFrame_update :
    let u := sessionIn .dispensing
    let f := fun slot now => { withA { u with share.split := 1500 } with
      now := now, slc := { Slc.reset with slot := slot, lastDone := some 10, reference := some peerContent } }
    let c := Instr.faultAsserted .a
    exec c (f .empty 134) = .next (after c (f .empty 134)) ∧ (f .empty 134).configured = .running demo ∧
      (after c (f .empty 134)).configured = .running demo ∧ (f .empty 134).slc.tx ≠ .barred ∧
      (after c (f .empty 134)).slc.tx ≠ .barred ∧ (after c (f .empty 134)).slc.leaveWait = false ∧
      announced demo (after c (f .empty 134)) ≠ announced demo (f .empty 134) ∧
      (f .empty 134).slc.reference ≠ some (announced demo (after c (f .empty 134))) ∧
      noteUpdate demo (announced demo served) { f .empty 134 with slc.reference := some (announced demo (f .empty 134)) } =
        { f .empty 134 with slc.reference := some (announced demo (f .empty 134)) } ∧
      (after c (f .empty 134)).slc.slot = .deferred 135 ∧ (after c (f .empty 135)).slc.slot = .due .announce ∧
      (after c (f (.due .leave) 134)).slc.slot = .due .leave ∧
      (after c { f .empty 134 with slc := { Slc.reset with leaveWait := true } }).slc.slot = .empty ∧
      (after c { f .empty 134 with slc := { Slc.reset with tx := .barred } }).slc.slot = .empty := by
  refine ⟨rfl, ?_⟩
  decide +kernel

/-- O50: an own frame on the line with 14 and 15 bit errors behind it, and in the LEAVE wait; a resting transmitter. -/
theorem witness_LostAndAbortedFramesStayDue :
    let s := { served with slc := { Slc.reset with slot := .sending (.announce 0 peerContent), bitErrorRun := 14 } }
    s.configured = .running demo ∧ s.slc.slot = .sending (.announce 0 peerContent) ∧ s.slc.leaveWait = false ∧
      s.slc.bitErrorRun < 15 ∧ 15 ≤ { s with slc.bitErrorRun := 15 }.slc.bitErrorRun ∧
      { s with slc.leaveWait := true }.slc.leaveWait = true ∧ s.slc.leaveExpired = false ∧ s.slc.tx = .on ∧
      (after .bitError { s with slc.leaveWait := true }).slc.slot = .due .leave ∧
      (let t := { served with slc := { Slc.reset with tx := .resting, restTimer := some 1000, bitErrorRun := 16 } };
        t.slc.tx = .resting ∧ t.slc.restTimer.isSome = true ∧ { t with slc.slot := .due .announce }.slc.slot ≠ .empty) := by
  decide +kernel

/-- O51: an own ANNOUNCE on the line; its acknowledged completion takes an ISOLATED station that has heard a peer to JOINED. -/
theorem witness_OwnAnnounceCompletes :
    let s := { served with slc := { Slc.reset with slot := .sending (.announce 0 peerContent) } }
    s.configured = .running demo ∧ s.slc.slot = .sending (.announce 0 peerContent) ∧
      (let t := after (.ownFrameCompletion true)
        { s with prs := { s.prs with mode := .isolated, heardSinceEntry := true, ackSilence := 5 } };
        t.prs.mode = .joined ∧ t.flagSet .lineMode = true) := by
  decide +kernel

/-- O52: a part that receives; an idle line, RUNNING and not. -/
theorem witness_ReceiverFollowsTheLine :
    served.configured = .running demo ∧ sending served = false ∧ served.slc.receiver ≠ .ignoring ∧
      { served with slc.lineIdle := true }.slc.lineIdle = true ∧ ∀ im, State.reset.configured ≠ .running im :=
  ⟨rfl, rfl, by decide, rfl, fun _ h => nomatch h⟩

/-- O53: a frame with a bad check, one with line mode code 3, and good ones with the own id. -/
theorem witness_BadAndOwnFramesAreNotDelivered :
    served.configured = .running demo ∧ sending served = false ∧ served.slc.receiver ≠ .ignoring ∧
      served.slc.leaveWait = false ∧ demo.stationId ≠ 0 ∧ checkGood ((peerFrame 1).set 1 6).toList = false ∧
      u8At ((peerFrame 2).set 2 0xC0).toList 2 / 64 = 3 ∧ checkGood (peerFrame 1).toList = true ∧
      frameId (peerFrame 1).toList = 1 ∧ u8At (peerFrame 1).toList 0 % 4 = 3 ∧ u8At (peerFrame 1).toList 2 / 64 ≠ 3 ∧
      checkGood (peerLeave 1).toList = true ∧ frameId (peerLeave 1).toList = 1 ∧ u8At (peerLeave 1).toList 0 % 4 = 3 ∧
      { served with slc.tx := .barred }.slc.tx = .barred ∧ served.slc.tx ≠ .barred ∧
      { served with slc.leaveWait := true }.slc.leaveWait = true := by
  decide +kernel

/-- O54: good frames of a peer that has an entry and of one that has none, at both ends of the ids. -/
theorem witness_PeerFramesChangeTheirEntry :
    park.configured = .running demo ∧ sending park = false ∧ park.slc.receiver ≠ .ignoring ∧
      checkGood (peerFrame 31).toList = true ∧ frameId (peerFrame 31).toList = 31 ∧ u8At (peerFrame 31).toList 0 % 4 = 3 ∧
      receivedAnnounce (peerFrame 31).toList = some peerContent ∧ frameId (peerFrame 2).toList = 2 ∧
      checkGood (peerLeave 2).toList = true ∧ u8At (peerLeave 2).toList 0 % 4 = 3 ∧
      (entryOf park.prs.roster 2).isSome = true ∧ entryOf park.prs.roster 31 = none := by
  decide +kernel

/-- O54: a fourth peer in a park of four raises ROSTER OVER; a limit other than L is listed, as the seventeenth in place of the oldest;
an entry that does not hear the own id keeps the unheard count. -/
theorem witness_PeerFramesChangeTheirEntry_flags :
    let e := fun id heard : Nat => (⟨id, true, 0, 2, 5, 0, ⟨false, 0, 1, false⟩, ⟨false, 0, 1, false⟩, 0, 0, 12000,
      BitVec.ofNat 32 heard, .joined⟩ : Entry)
    let s := { served with prs := { served.prs with roster := [e 2 2, e 3 2, e 4 0], unheard := 3, mismatches := List.range 16 } }
    let frame := vecOf 21 (announceBytes 31 5 { peerContent with limit := 11000 })
    let t := after (.announceReceived frame false) s
    checkGood frame.toList = true ∧ entryOf s.prs.roster 31 = none ∧ s.prs.nEff = 4 ∧ t.prs.nEff = 5 ∧
      t.flagSet .rosterOver = true ∧ t.flagSet .limitMismatch = true ∧
      t.prs.mismatches = (List.range 16).tail ++ [11000] ∧ t.prs.unheard = 3 ∧
      (after (.announceReceived frame false) park).prs.unheard = 0 := by
  decide +kernel

/-- O55: a tick with an entry about to turn STALE and one about to lapse, and with an own frame on the line. -/
theorem witness_SharePeriodTickAgesTheRoster :
    park.configured = .running demo ∧ demo.staleCount = 2 + 1 ∧ demo.lapseCount = 7 + 1 ∧ park.slc.leaveWait = false ∧
      park.slc.tx ≠ .barred ∧ sending park = false ∧
      { park with slc.slot := .sending (.leave 0) }.slc.slot = .sending (.leave 0) ∧
      { park with slc.slot := .due .leave }.slc.slot = .due .leave ∧ park.slc.slot = .empty ∧
      { park with slc.slot := .deferred 9 }.slc.slot = .deferred 9 ∧ { park with slc.leaveWait := true }.slc.leaveWait = true := by
  decide +kernel

/-- O55: the unheard count rises in JOINED while a settled entry does not hear the own id, stays in HALF_HEARD, and is 0 without one. -/
theorem witness_SharePeriodTickAgesTheRoster_unheard :
    let f := fun (heard : BitVec 32) mode => { served with prs := { served.prs with
      mode := mode, unheard := 3
      roster := [⟨2, true, 0, 2, 5, 0, ⟨false, 0, 1, false⟩, ⟨false, 0, 1, false⟩, 0, 0, 12000, heard, .joined⟩] } }
    (after .sharePeriodTick (f 0 .joined)).prs.unheard = 4 ∧ (after .sharePeriodTick (f 0 .halfHeard)).prs.unheard = 3 ∧
      (after .sharePeriodTick (f 2 .joined)).prs.unheard = 0 := by
  decide +kernel

/-- O56: each row of R39, with the counts at the isolation count and one below it. -/
theorem witness_ModeEvaluationTakesTheFirstRow :
    let f := fun mode n k => { served with prs := { served.prs with mode := mode, nEff := n, peerSilence := k } }
    (evaluateMode demo (f .isolated 1 5)).prs.mode = .joined ∧ (evaluateMode demo (f .joined 4 5)).prs.mode = .isolated ∧
      (evaluateMode demo (f .isolated 4 4)).prs.mode = .isolated ∧ (evaluateMode demo (f .halfHeard 4 4)).prs.mode = .joined ∧
      (evaluateMode demo { f .joined 4 4 with prs := { served.prs with unheard := 5 } }).prs.mode = .halfHeard := by
  decide +kernel

/-- O57: a command with a message. -/
theorem witness_MessagesSpellTheirCommands : messageOf (.setClock 10079 59) = some [5, 0, 3, 0x27, 0x5F, 59] := by decide +kernel

/-- R18 with Table 20, by hand: a demand of 6001 (1771h) and a weight of 0 in a present, parked claim; a clear present flag beside other
values; a heard set of ids 0, 1 and 31; and a line mode code of 3. -/
theorem test_received_values_are_clamped :
    let frame := fun mode : Byte => [139, 5, mode, 0x2E, 0xE0, 0, 1, 0, 2, 0x17, 0x71, 0xC0, 0x0B, 0xB8, 0x4F, 0x80, 0, 0, 3, 0, 0]
    receivedAnnounce (frame 0x40) =
        some ⟨.halfHeard, 12000, 1, 2, ⟨true, 6000, 1, true⟩, ⟨false, 0, 1, false⟩, 0x80000002⟩ ∧
      receivedAnnounce (frame 0xC0) = none := by decide +kernel

/-- O58: values within the ranges of R4, a claim present and one absent. -/
theorem witness_FramesAreReceivedAsSent :
    1 ≤ 31 ∧ peerContent.limit < 65536 ∧ peerContent.granted < 65536 ∧ peerContent.intended < 65536 ∧
      peerContent.heard.getLsbD 0 = false ∧
      ∀ x ∈ [peerContent.claimA, peerContent.claimB], ClaimOk x ∧ (x.present = false → x = ⟨false, 0, 1, false⟩) := by
  refine ⟨by decide, by decide, by decide, by decide, by decide, ?_⟩
  unfold ClaimOk
  decide

end Sys2Proof.Tests
end

section
/-! SUPPORT. The gates of the rows of a RUNNING part, the values at power-on, and what the receiver finds on the line. -/

namespace Sys2Proof.Machine

theorem reset_out (o : Outlet) : State.reset.out o = OutletState.reset := by cases o <;> rfl

/-- Settles O4: every value is read off the record of `State.reset`, the two outlets' off the one of `OutletState.reset`. -/
theorem resetValues : Obligations.ResetValues := by
  unfold Obligations.ResetValues
  simp only [reset_out]
  and_intros <;> intros <;> and_intros <;> rfl

theorem whenRunning_running {s : State} {im : Image} (h : s.configured = .running im) (f : Image → State) :
    whenRunning s f = f im := by
  unfold whenRunning; rw [h]

theorem whenRunning_not_running {s : State} (h : ∀ im, s.configured ≠ .running im) (f : Image → State) :
    whenRunning s f = s := by
  unfold whenRunning
  split
  · exact absurd ‹_› (h _)
  · rfl
  · rfl

theorem receives_iff {s : State} : receives s = true ↔ sending s = false ∧ s.slc.receiver ≠ .ignoring := by
  simp [receives]

/-- Settles O52: each row's own condition is a hypothesis of its clause. -/
theorem receiverFollowsTheLine : Obligations.ReceiverFollowsTheLine := by
  intro s
  refine ⟨fun im h quiet hears => ?_, fun quiet => ?_, fun im h idle => ?_, fun h idle => ?_⟩
  · have hr : receives s = true := receives_iff.mpr ⟨quiet, hears⟩
    simp only [exec, execStuffViolation, whenRunning_running h, hr, if_true, satAdd, maxCount]
  · simp only [exec, execLineIdle, quiet, Bool.false_eq_true, if_false]
  · simp only [exec, execFrameStartBit, idle, if_true]
    rw [whenRunning_running (s := { s with slc.lineIdle := false }) h]
  · simp only [exec, execFrameStartBit, idle, if_true]
    rw [whenRunning_not_running (s := { s with slc.lineIdle := false }) h]

end Sys2Proof.Machine
end

section
/-! SUPPORT. Bit stuffing (R2, R14): the receiver's removal undoes it, and the runs it leaves are short. -/

namespace Sys2Proof.Machine

/-- The removal of stuff bits gives back the content after every run that is still open (R2). -/
theorem unstuffAfter_stuffAfter (content : List Bool) (cur : Bool) (run : Nat) (h : run < 4) :
    unstuffAfter cur run (stuffAfter cur run content) = some content := by
  induction content generalizing cur run with
  | nil => simp [stuffAfter, unstuffAfter, Nat.ne_of_lt h]
  | cons b bs ih =>
    have open_ : run ≠ 4 := Nat.ne_of_lt h
    by_cases hb : b = cur
    · by_cases full : run = 3
      · simp [stuffAfter, unstuffAfter, hb, full, ih (!cur) 1 (by omega)]
      · simp [stuffAfter, unstuffAfter, hb, full, open_, ih cur (run + 1) (by omega)]
    · simp [stuffAfter, unstuffAfter, hb, open_, ih b 1 (by omega)]

/-- Five equal bits that stand in a run of at most four and what follows its last bit stand in what follows. -/
theorem isInfix_after_run {level cur : Bool} {rest : List Bool} (run : Nat) (h : run ≤ 4)
    (five : List.replicate 5 level <:+: List.replicate run cur ++ (!cur) :: rest) :
    List.replicate 5 level <:+: (!cur) :: rest := by
  induction run with
  | zero => exact five
  | succ run ih =>
    rw [List.replicate_succ (n := run), List.cons_append, List.infix_cons_iff] at five
    rcases five with starts | later
    · rw [← List.cons_append, ← List.replicate_succ (n := run)] at starts
      have first : cur = level := by
        have := starts.getElem (i := 0) (by simp)
        simpa using this.symm
      have last : level = !cur := by
        have := starts.getElem (i := run + 1) (by simp; omega)
        rw [List.getElem_replicate, List.getElem_append_right (by simp)] at this
        simpa using this
      exact absurd (first.trans last) (by simp)
    · exact ih (by omega) later

/-- The bits that follow an open run of one to three bits make no five equal bits with it (R2). -/
theorem not_five_stuffAfter (level : Bool) (content : List Bool) (cur : Bool) (run : Nat) (h : run < 4) :
    ¬List.replicate 5 level <:+: List.replicate run cur ++ stuffAfter cur run content := by
  induction content generalizing cur run with
  | nil =>
    intro five
    have := five.length_le
    simp [stuffAfter] at this
    omega
  | cons b bs ih =>
    intro five
    by_cases hb : b = cur
    · have grown : List.replicate run cur ++ [cur] = List.replicate (run + 1) cur := List.replicate_succ'.symm
      by_cases full : run = 3
      · simp only [stuffAfter, hb, full, if_true] at five
        exact ih (!cur) 1 (by omega) (isInfix_after_run 4 (Nat.le_refl 4) five)
      · have short : run + 1 ≠ 4 := by omega
        simp only [stuffAfter, hb, if_true, short, if_false] at five
        rw [← List.singleton_append, ← List.append_assoc, grown] at five
        exact ih cur (run + 1) (by omega) five
    · obtain rfl : b = !cur := Bool.eq_not.mpr hb
      simp only [stuffAfter, hb, if_false] at five
      exact ih (!cur) 1 (by omega) (isInfix_after_run run (by omega) five)

/-- Settles O59, by induction on the content with the run that is still open. -/
theorem stuffingIsUndone : Obligations.StuffingIsUndone := fun content =>
  ⟨unstuffAfter_stuffAfter content false 1 (by omega), fun level => not_five_stuffAfter level content false 1 (by omega)⟩

end Sys2Proof.Machine
end

section
/-! SUPPORT. The frames of the share line (R2 to R6, R15, R18, Tables 20 and 21): the check, the fields of an ANNOUNCE and of a LEAVE, and what is
received of them. -/

namespace Sys2Proof.Machine

theorem getLsbD_eq_div (b : Byte) (i : Nat) : b.getLsbD i = decide (b.toNat / 2 ^ i % 2 = 1) := by
  rw [← BitVec.testBit_toNat, Nat.testBit_eq_decide_div_mod_eq]

@[simp] theorem bitsOf_append (l m : List Byte) : bitsOf (l ++ m) = bitsOf l ++ bitsOf m := List.flatMap_append ..

/-- A content bit equal to the one shifted out only shifts the register (R6). -/
theorem crcBit_top (r : BitVec 16) (k : Nat) (h : k < 16) : crcBit (r <<< k) (r.getLsbD (15 - k)) = r <<< (k + 1) := by
  have top : (r <<< k).getLsbD 15 = r.getLsbD (15 - k) := by
    rw [BitVec.getLsbD_shiftLeft]
    simp; omega
  rw [crcBit, top, bne_self_eq_false, if_neg Bool.false_ne_true, BitVec.shiftLeft_add]

/-- The register's own bits, most significant first, shift it to 0 (R6). -/
theorem crcFrom_own (r : BitVec 16) : crcFrom r (bitsOf (bytes16 r)) = 0 := by
  have bits : bitsOf (bytes16 r) = (List.range 16).map fun k => r.getLsbD (15 - k) := by
    simp [bitsOf, bytes16, byteBits, List.range_succ]
  have shift : ∀ n, n ≤ 16 → crcFrom r ((List.range n).map fun k => r.getLsbD (15 - k)) = r <<< n := by
    intro n
    induction n with
    | zero => intro _; simp [crcFrom]
    | succ n ih =>
      intro h
      have := ih (by omega)
      simp only [crcFrom] at this ⊢
      rw [List.range_succ, List.map_append, List.foldl_append, this]
      exact crcBit_top r n (by omega)
  rw [bits, shift 16 (Nat.le_refl _)]
  exact BitVec.shiftLeft_eq_zero (Nat.le_refl _)

theorem checkGood_withCheck (content : List Byte) : checkGood (withCheck content) = true := by
  simp only [checkGood, withCheck, bitsOf_append, crcFrom, List.foldl_append]
  have := crcFrom_own (checkOf content)
  simp only [crcFrom, checkOf] at this ⊢
  rw [this]; rfl

/-- A two-byte field reads back as it was written (R211). -/
theorem ofNat_pair (v : Nat) (h : v < 65536) :
    (BitVec.ofNat 8 (v / 256)).toNat * 256 + (BitVec.ofNat 8 v).toNat = v := by
  simp only [BitVec.toNat_ofNat]; omega

/-- A bit of four bytes stands in the byte of its eighth (R211). -/
theorem getLsbD_word32 (b3 b2 b1 b0 : Byte) (n : Nat) (h : n < 32) :
    (word32 b3 b2 b1 b0).getLsbD n = ([b0, b1, b2, b3].getD (n / 8) 0).getLsbD (n % 8) := by
  have place : n / 8 = 0 ∨ n / 8 = 1 ∨ n / 8 = 2 ∨ n / 8 = 3 := by omega
  rcases place with k | k | k | k <;> simp only [word32, BitVec.getLsbD_append, k, List.getD_cons_zero, List.getD_cons_succ]
  · rw [if_pos (by omega), if_pos (by omega)]; congr 1; omega
  · rw [if_pos (by omega), if_neg (by omega)]; congr 1; omega
  · rw [if_neg (by omega), if_pos (by omega)]; congr 1; omega
  · rw [if_neg (by omega), if_neg (by omega)]; congr 1; omega

theorem getLsbD_notIdZero : ∀ n, n < 32 → (0xFFFFFFFE : BitVec 32).getLsbD n = decide (1 ≤ n) := by decide

/-- What is delivered of a heard set: every membership but that of id 0 (R18). -/
theorem getLsbD_receivedHeard (frame : List Byte) (n : Nat) (h : n < 32) :
    (receivedHeard frame).getLsbD n = (decide (1 ≤ n) && (frame.getD (18 - n / 8) 0).getLsbD (n % 8)) := by
  rw [receivedHeard, BitVec.getLsbD_and, getLsbD_word32 _ _ _ _ n h, getLsbD_notIdZero n h, Bool.and_comm]
  have place : n / 8 = 0 ∨ n / 8 = 1 ∨ n / 8 = 2 ∨ n / 8 = 3 := by omega
  rcases place with k | k | k | k <;> rw [k] <;> rfl

/-- The flags of a claim are bits 7 and 6 of its third byte (Table 20). -/
theorem receivedClaim_eq (frame : List Byte) (i : Nat) :
    receivedClaim frame i =
      if (frame.getD (i + 2) 0).getLsbD 7 = true then
        ⟨true, min 6000 (u16At frame i), max 1 ((frame.getD (i + 2) 0).toNat % 16), (frame.getD (i + 2) 0).getLsbD 6⟩
      else ⟨false, 0, 1, false⟩ := by
  simp only [receivedClaim, u8At, getLsbD_eq_div, decide_eq_true_eq]
  rfl

/-- A line mode code of 3 names no mode, and each of the others the mode of its place (R211, Table 20). -/
theorem lineModeOf_eq : ∀ code, code < 4 →
    lineModeOf code = if code = 3 then none else some ([LineMode.joined, .halfHeard, .isolated].getD code .joined) := by
  decide

theorem modeCode_lt (frame : List Byte) : u8At frame 2 / 64 < 4 := by
  have : u8At frame 2 < 256 := (frame.getD 2 0).isLt
  omega

/-- The heard set of an ANNOUNCE is received as it was sent (R4, R18). -/
theorem word32_extract (h : BitVec 32) :
    word32 (h.extractLsb' 24 8) (h.extractLsb' 16 8) (h.extractLsb' 8 8) (h.extractLsb' 0 8) = h := by
  apply BitVec.eq_of_getLsbD_eq
  intro n hn
  rw [getLsbD_word32 _ _ _ _ n hn]
  have place : n / 8 = 0 ∨ n / 8 = 1 ∨ n / 8 = 2 ∨ n / 8 = 3 := by omega
  have low : n % 8 < 8 := Nat.mod_lt _ (by omega)
  rcases place with k | k | k | k <;>
    simp only [k, List.getD_cons_zero, List.getD_cons_succ, BitVec.getLsbD_extractLsb', low, decide_true, Bool.true_and] <;>
    congr 1 <;> omega

theorem and_notIdZero (h : BitVec 32) (k : h.getLsbD 0 = false) : h &&& 0xFFFFFFFE = h := by
  apply BitVec.eq_of_getLsbD_eq
  intro n hn
  rw [BitVec.getLsbD_and, getLsbD_notIdZero n hn]
  rcases Nat.eq_zero_or_pos n with rfl | pos
  · rw [k]; rfl
  · simp [Nat.succ_le_of_lt pos]

/-- The third byte of a claim, as a number (Table 20). -/
def claimFlags (c : Claim) : Nat := (if c.present then 128 else 0) + (if c.parked then 64 else 0) + c.weight % 16

/-- A claim within the clamps of R18 is received as it was sent. -/
theorem receivedClaim_claimBytes (frame : List Byte) (i : Nat) (c : Claim) (ok : ClaimOk c)
    (absent : c.present = false → c = ⟨false, 0, 1, false⟩) (h0 : frame.getD i 0 = BitVec.ofNat 8 (c.demand / 256))
    (h1 : frame.getD (i + 1) 0 = BitVec.ofNat 8 c.demand) (h2 : frame.getD (i + 2) 0 = BitVec.ofNat 8 (claimFlags c)) :
    receivedClaim frame i = c := by
  obtain ⟨demand, light, heavy⟩ := ok
  obtain ⟨present, d, w, parked⟩ := c
  have field : u16At frame i = d := by
    rw [u16At, u8At, u8At, h0, h1]; exact ofNat_pair d (by simp only at demand; omega)
  have flags : u8At frame (i + 2) = claimFlags ⟨present, d, w, parked⟩ % 256 := by rw [u8At, h2]; exact BitVec.toNat_ofNat ..
  simp only at demand light heavy
  simp only [receivedClaim, flags, field, claimFlags]
  cases present
  · obtain ⟨rfl, rfl, rfl⟩ : d = 0 ∧ w = 1 ∧ parked = false := by simpa using absent rfl
    rfl
  · cases parked <;> rw [if_pos (by simp; omega)] <;> simp <;> omega

/-- The bytes of an ANNOUNCE, one by one (Table 20). -/
theorem announceBytes_eq (id : Nat) (sequence : Byte) (c : Announced) :
    announceBytes id sequence c =
      [BitVec.ofNat 8 (128 + id * 4 + 3), sequence, BitVec.ofNat 8 (lineModeCode c.mode * 64),
        BitVec.ofNat 8 (c.limit / 256), BitVec.ofNat 8 c.limit, BitVec.ofNat 8 (c.granted / 256), BitVec.ofNat 8 c.granted,
        BitVec.ofNat 8 (c.intended / 256), BitVec.ofNat 8 c.intended,
        BitVec.ofNat 8 (c.claimA.demand / 256), BitVec.ofNat 8 c.claimA.demand, BitVec.ofNat 8 (claimFlags c.claimA),
        BitVec.ofNat 8 (c.claimB.demand / 256), BitVec.ofNat 8 c.claimB.demand, BitVec.ofNat 8 (claimFlags c.claimB),
        c.heard.extractLsb' 24 8, c.heard.extractLsb' 16 8, c.heard.extractLsb' 8 8, c.heard.extractLsb' 0 8] ++
      bytes16 (checkOf (announceContent id sequence c)) := by
  simp [announceBytes, withCheck, announceContent, be, claimBytes, claimFlags, bytes32, arbitrationField]

/-- The bytes of a LEAVE, one by one (Table 21). -/
theorem leaveBytes_eq (id : Nat) (sequence : Byte) :
    leaveBytes id sequence =
      [BitVec.ofNat 8 (id * 4 + 3), sequence] ++ bytes16 (checkOf (be 1 (arbitrationField .leave id) ++ [sequence])) := by
  simp [leaveBytes, withCheck, be, arbitrationField]

/-- An ANNOUNCE within the ranges of R4 is received as it was sent (R18). -/
theorem receivedAnnounce_announceBytes (id : Nat) (sequence : Byte) (c : Announced) (limit : c.limit < 65536)
    (granted : c.granted < 65536) (intended : c.intended < 65536) (heard : c.heard.getLsbD 0 = false)
    (claims : ∀ x ∈ [c.claimA, c.claimB], ClaimOk x ∧ (x.present = false → x = ⟨false, 0, 1, false⟩)) :
    receivedAnnounce (announceBytes id sequence c) = some c := by
  obtain ⟨⟨okA, absentA⟩, okB, absentB⟩ : (ClaimOk c.claimA ∧ _) ∧ ClaimOk c.claimB ∧ _ :=
    ⟨claims _ (by simp), claims _ (by simp)⟩
  have bytes := announceBytes_eq id sequence c
  have claimA := receivedClaim_claimBytes (announceBytes id sequence c) 9 c.claimA okA absentA
    (by rw [bytes]; rfl) (by rw [bytes]; rfl) (by rw [bytes]; rfl)
  have claimB := receivedClaim_claimBytes (announceBytes id sequence c) 12 c.claimB okB absentB
    (by rw [bytes]; rfl) (by rw [bytes]; rfl) (by rw [bytes]; rfl)
  have mode : lineModeOf (u8At (announceBytes id sequence c) 2 / 64) = some c.mode := by
    have code : u8At (announceBytes id sequence c) 2 = lineModeCode c.mode * 64 % 256 := by
      rw [bytes]; exact BitVec.toNat_ofNat ..
    rw [code]; cases c.mode <;> rfl
  have set : receivedHeard (announceBytes id sequence c) = c.heard := by
    rw [bytes]; exact (congrArg (· &&& 0xFFFFFFFE) (word32_extract c.heard)).trans (and_notIdZero _ heard)
  have l : u16At (announceBytes id sequence c) 3 = c.limit := by rw [bytes]; exact ofNat_pair _ limit
  have g : u16At (announceBytes id sequence c) 5 = c.granted := by rw [bytes]; exact ofNat_pair _ granted
  have n : u16At (announceBytes id sequence c) 7 = c.intended := by rw [bytes]; exact ofNat_pair _ intended
  simp only [receivedAnnounce, mode, claimA, claimB, set, l, g, n, Option.map_some]

/-- The arbitration field of a frame tells the kind, the id and the recessive fillers (R3). -/
theorem arbitration_reads (frame : List Byte) (kind : Bool) (id : Nat) (h1 : 1 ≤ id) (h2 : id ≤ 31)
    (h : frame.getD 0 0 = BitVec.ofNat 8 ((if kind then 128 else 0) + id * 4 + 3)) :
    frameId frame = id ∧ fillersRecessive frame = true ∧ frameKindBit frame = kind := by
  simp only [frameId, fillersRecessive, frameKindBit, u8At, h, getLsbD_eq_div, BitVec.toNat_ofNat, beq_iff_eq]
  cases kind <;> simp <;> omega

/-- Settles O58: the bytes of a frame are written out and read back field by field, and its check is the register's own bits. -/
theorem framesAreReceivedAsSent : Obligations.FramesAreReceivedAsSent := by
  refine ⟨fun frame => ⟨fun code => ?_, fun code => ?_⟩, fun id sequence c one last limit granted intended heard claims => ?_⟩
  · simp only [receivedAnnounce, code]; rfl
  · have mode := (lineModeOf_eq _ (modeCode_lt frame.toList)).trans (if_neg code)
    refine ⟨_, by simp only [receivedAnnounce, mode]; rfl, rfl, rfl, rfl, rfl, receivedClaim_eq _ 9, receivedClaim_eq _ 12, ?_, ?_⟩
    · exact getLsbD_receivedHeard _ 0 (by omega)
    · intro n low high
      exact (getLsbD_receivedHeard _ n high).trans (by simp [low])
  · obtain ⟨aId, aFill, aKind⟩ := arbitration_reads (announceBytes id sequence c) true id one last
      (by rw [announceBytes_eq]; rfl)
    obtain ⟨lId, lFill, lKind⟩ := arbitration_reads (leaveBytes id sequence) false id one last
      (by rw [leaveBytes_eq, if_neg Bool.false_ne_true, Nat.zero_add]; rfl)
    exact ⟨⟨by rw [announceBytes_eq]; rfl, checkGood_withCheck _, aId, aFill, by rw [announceBytes_eq]; rfl, aKind,
        receivedAnnounce_announceBytes id sequence c limit granted intended heard claims⟩,
      by rw [leaveBytes_eq]; rfl, checkGood_withCheck _, lId, lFill, by rw [leaveBytes_eq]; rfl, lKind⟩

end Sys2Proof.Machine
end

section
/-! SUPPORT. What falls due and what 0.1 ms does (spec/00, Time): membership in the list of due events, and `advance` at the station and at
an outlet. -/

namespace Sys2Proof.Machine

/-- The recognition due at a filter, by its recognised level (R94, R121). -/
theorem mem_dueLevel_iff {depth : Nat} {f : Filter} {c rise fall : Instr} :
    c ∈ dueLevel depth f rise fall ↔
      (depth ≤ f.run ∧ f.level = true) ∧ c = fall ∨ (depth ≤ f.run ∧ f.level = false) ∧ c = rise := by
  rw [mem_dueLevel]
  cases f.level <;> simp

theorem markDue_iff {s : State} : markDue s = true ↔ ∃ mark, s.slc.slot = .deferred mark ∧ mark ≤ s.now := by
  unfold markDue; split <;> simp_all

theorem attemptDue_iff {s : State} :
    attemptDue s = true ↔ (∃ kind, s.slc.slot = .due kind) ∧ s.slc.tx = .on ∧ s.slc.lineIdle = true := by
  unfold attemptDue; split <;> simp_all

theorem parkDue_iff {s : State} {u : OutletState} :
    parkDue s u = true ↔ ∃ time, u.grl.parkHold = .running time ∧ time ≤ s.now := by
  unfold parkDue; split <;> simp_all

theorem pulseDue_eq_false {im : Image} {u : OutletState} :
    pulseDue im u = false ↔ (im.meterDepth ≤ u.mtf.pulse.run → u.mtf.pulse.level = true) := by
  simp [pulseDue, recognises]

theorem dwells_iff {u : OutletState} : dwells u = true ↔ u.osc.state = .dwell ∧ u.acc.stopped = false := by
  simp [dwells]

theorem inOpenWait_iff {c : Osc} : inOpenWait c = true ↔ c.state = .closing ∧ c.closePhase = some .openWait := by
  simp [inOpenWait]

/-- In RUNNING, with no command executing, what is due is the clock's tick, the station's events and those of the outlets. -/
theorem mem_dueEvents {im : Image} {s : State} (h : s.configured = .running im) (k : s.hpt.captured = none) {c : Instr} :
    c ∈ dueEvents s ↔
      s.clockTickDue = true ∧ c = .tariffClockAdvance ∨ c ∈ dueStation im s ∨ c ∈ dueOutlet im s .a ∨ c ∈ dueOutlet im s .b := by
  simp only [dueEvents, h, dueCommand, k, ite_self, List.nil_append, List.mem_append, mem_dueIf, or_assoc]


theorem idle_step {s : State} (h : s.pending = []) : step s = idleStep s (dueEvents s) := by
  unfold step; rw [h]

theorem idleStep_several (s : State) (l : List Instr) (h : 2 ≤ l.length) :
    ∃ c, c ∈ l ∧ idleStep s l = exec c { s with draws := s.draws + 1 } := by
  match l, h with
  | i :: j :: rest, _ =>
    have inside : Config.duePick s.draws % (i :: j :: rest).length < (i :: j :: rest).length := Nat.mod_lt _ (Nat.succ_pos _)
    refine ⟨(i :: j :: rest)[Config.duePick s.draws % (i :: j :: rest).length], List.getElem_mem inside, ?_⟩
    rw [List.getElem_eq_getD i]
    rfl

theorem inSession_iff {x : Session} : inSession x = true ↔ x ≠ .idle ∧ x ≠ .settleWait := by
  cases x <;> simp [inSession]

/-- One fitted outlet's 0.1 ms, at its own part of the state alone. -/
theorem tenthAt_eq (im : Image) (o : Outlet) (s : State) :
    tenthAt im o s = s.setOut o (if fitted im o then tenthOutlet im (s.out o) else s.out o) := by
  unfold tenthAt State.modOut
  split
  · rfl
  · cases o <;> rfl

/-- One fitted outlet's tick, at its own part of the state and the free values drawn. -/
theorem tickOutlet_eq (im : Image) (o : Outlet) (s : State) :
    tickOutlet im o s =
      { s.setOut o (if fitted im o then (countOutlet (sampleOutlet im (s.out o)) s.draws).1 else s.out o) with
        draws := if fitted im o then (countOutlet (sampleOutlet im (s.out o)) s.draws).2 else s.draws } := by
  unfold tickOutlet
  cases fitted im o
  · cases o <;> rfl
  · rfl

/-- The counts of an outlet's session at a tick: nothing but the three counts changes, and each only where its state has it count. -/
theorem countOutlet_spec (u : OutletState) (draws : Nat) :
    ∃ parked dwell,
      (countOutlet u draws).1 =
          { u with
            osc.sessionTime := if inSession u.osc.state then min 4294967295 (u.osc.sessionTime + 1) else u.osc.sessionTime
            grl.parkedMs := parked
            acc.dwellClock := dwell } ∧
        (u.osc.state ≠ .parked → parked = u.grl.parkedMs) ∧ (dwells u = false → dwell = u.acc.dwellClock) ∧
        (u.osc.state = .parked → u.grl.parkedMs < 4294967295 → parked = u.grl.parkedMs + 1) ∧
        (dwells u = true → u.acc.dwellClock < 4294967295 → dwell = u.acc.dwellClock + 1) ∧
        (u.osc.state = .parked → parked ≤ 4294967295) ∧ (dwells u = true → dwell ≤ 4294967295) ∧
        (u.grl.parkedMs < 4294967295 → u.acc.dwellClock < 4294967295 → (countOutlet u draws).2 = draws) := by
  unfold countOutlet max32
  refine ⟨_, _, rfl, fun n => by rw [if_neg n], fun n => by rw [n]; rfl, fun n m => ?_, fun n m => ?_, fun n => ?_, fun n => ?_,
    fun n m => ?_⟩
  · rw [if_pos n, bump, if_pos m]
  · rw [if_pos n, bump, if_pos m]
  · rw [if_pos n]; exact bump_le _ _ _
  · rw [if_pos n]; exact bump_le _ _ _
  · dsimp only
    simp only [bump, n, m, if_true, ite_self, apply_ite Prod.snd]


/-- 0.1 ms of a RUNNING part within its millisecond (R121, R127). -/
theorem advance_tenth {im : Image} {s : State} (h : s.configured = .running im) (k : s.phase < 9) :
    advance s =
      { s with
        phase := s.phase + 1
        outA := if fitted im .a then tenthOutlet im s.outA else s.outA
        outB := if fitted im .b then tenthOutlet im s.outB else s.outB } := by
  simp only [advance, whenRunning_running h, tenthAt_eq, setOut_a, setOut_b, out_a, out_b, k, if_true]

/-- The tenth 0.1 ms of a RUNNING part, with its tick of 1 ms (R93, R94). -/
theorem advance_tick {im : Image} {s : State} (h : s.configured = .running im) (k : ¬s.phase < 9) :
    ∃ d,
      advance s =
        { s with
          phase := 0, now := s.now + 1, clockTickDue := s.tru.clock.set, eStop := sampleFilter im.filterDepth s.eStop
          outA := if fitted im .a then (countOutlet (sampleOutlet im (tenthOutlet im s.outA)) s.draws).1 else s.outA
          outB := if fitted im .b then (countOutlet (sampleOutlet im (tenthOutlet im s.outB)) d).1 else s.outB
          draws := if fitted im .b then (countOutlet (sampleOutlet im (tenthOutlet im s.outB)) d).2 else d } ∧
        d = if fitted im .a then (countOutlet (sampleOutlet im (tenthOutlet im s.outA)) s.draws).2 else s.draws := by
  refine ⟨_, ?_, rfl⟩
  have aged : ageRead (.running im) = .running im := rfl
  simp only [advance, whenRunning_running h, tenthAt_eq, setOut_a, setOut_b, out_a, out_b, k, if_false, tickMs, h, aged]
  rw [whenRunning_running rfl]
  simp only [tickOutlet_eq, setOut_a, setOut_b, out_a, out_b]
  cases fitted im .a <;> cases fitted im .b <;> simp

/-- 0.1 ms of a part that is not RUNNING: the time alone, and the read under way grows older with it (R204). -/
theorem advance_not_running {s : State} (h : ∀ im, s.configured ≠ .running im) :
    advance s =
      { s with
        now := if 9 ≤ s.phase then s.now + 1 else s.now, phase := if 9 ≤ s.phase then 0 else s.phase + 1
        clockTickDue := if 9 ≤ s.phase then s.tru.clock.set else s.clockTickDue
        configured := if 9 ≤ s.phase then ageRead s.configured else s.configured } := by
  have aged : ∀ im, ageRead s.configured ≠ .running im := by
    intro im; cases k : s.configured with
    | loading read => cases read <;> simp [ageRead]
    | unconfigured => simp [ageRead]
    | running im => exact absurd k (h im)
  simp only [advance, whenRunning_not_running h]
  by_cases k : s.phase < 9
  · simp [k, Nat.not_le.mpr k]
  · simp only [k, if_false, Nat.le_of_not_lt k, if_true, tickMs]
    rw [whenRunning_not_running aged]


/-- What 0.1 ms does at an outlet of a RUNNING part: a sample at a fitted one, and at the end of a millisecond a tick. -/
theorem advance_out {im : Image} {s : State} (h : s.configured = .running im) (o : Outlet) :
    ∃ d, (advance s).out o =
      if fitted im o = true then
        if 9 ≤ s.phase then (countOutlet (sampleOutlet im (tenthOutlet im (s.out o))) d).1 else tenthOutlet im (s.out o)
      else s.out o := by
  by_cases tick : 9 ≤ s.phase
  · obtain ⟨d, e, -⟩ := advance_tick h (Nat.not_lt.mpr tick)
    simp only [e, tick, if_true]
    cases o
    · exact ⟨s.draws, rfl⟩
    · exact ⟨d, rfl⟩
  · simp only [advance_tenth h (Nat.lt_of_not_le tick), tick, if_false]
    cases o <;> exact ⟨0, rfl⟩

/-- What 0.1 ms does at the station of a RUNNING part. -/
theorem advance_station {im : Image} {s : State} (h : s.configured = .running im) :
    advance s =
        { s with
          now := if 9 ≤ s.phase then s.now + 1 else s.now, phase := if 9 ≤ s.phase then 0 else s.phase + 1
          clockTickDue := if 9 ≤ s.phase then s.tru.clock.set else s.clockTickDue
          eStop := if 9 ≤ s.phase then sampleFilter im.filterDepth s.eStop else s.eStop
          draws := (advance s).draws, outA := (advance s).outA, outB := (advance s).outB } ∧
      ((∀ o, (s.out o).grl.parkedMs < 4294967295 ∧ (s.out o).acc.dwellClock < 4294967295) → (advance s).draws = s.draws) := by
  by_cases tick : 9 ≤ s.phase
  · obtain ⟨d, e, hd⟩ := advance_tick h (Nat.not_lt.mpr tick)
    refine ⟨by rw [e]; simp only [tick, if_true], fun small => ?_⟩
    have none_drawn : ∀ o draws, (countOutlet (sampleOutlet im (tenthOutlet im (s.out o))) draws).2 = draws := fun o draws => by
      obtain ⟨_, _, -, -, -, -, -, -, -, n⟩ := countOutlet_spec (sampleOutlet im (tenthOutlet im (s.out o))) draws
      exact n (small o).1 (small o).2
    have first := none_drawn .a
    have second := none_drawn .b
    simp only [out_a, out_b] at first second
    rw [e]
    simp only [hd, first, second, ite_self]
  · rw [advance_tenth h (Nat.lt_of_not_le tick)]
    simp only [tick, if_false, implies_true, and_self]

/-- Settles O2: the list of due events says what a step takes, membership in it what is due, and the three lemmas of `advance` what
0.1 ms does. -/
theorem idleStepTakesAnEventOrTime : Obligations.IdleStepTakesAnEventOrTime := by
  refine ⟨fun s idle => ?_, fun im s h k => ?_, fun s => ?_⟩
  · rw [idle_step idle]
    exact ⟨fun e => by rw [e]; rfl, fun c e => by rw [e]; rfl, idleStep_several s _⟩
  · refine ⟨?_, ?_, ?_, ?_, ?_, ?_, ?_, ?_, ?_, fun o fit => ?_⟩
    case refine_10 =>
      cases o
      all_goals
        simp [-out_a, -out_b, mem_dueEvents h k, dueStation, dueOutlet, mem_dueIf, dwells_iff, pulseDue_eq_false, and_assoc,
          mem_dueLevel_iff, ranOut_iff, fit, parkDue_iff, inOpenWait_iff, Option.isSome_iff_ne_none]
        exact fun _ _ => Iff.rfl
    all_goals
      simp [mem_dueEvents h k, dueStation, dueOutlet, mem_dueIf, mem_dueLevel_iff, markDue_iff, attemptDue_iff, ranOut_iff]
  · by_cases running : ∃ im, s.configured = .running im
    · obtain ⟨im, h⟩ := running
      obtain ⟨e, drawn⟩ := advance_station h
      have kept : (advance s).configured = s.configured := by rw [e]
      refine ⟨by rw [e], fun read n => ?_, fun _ => kept, fun n => absurd h (n im), fun im' h' => ?_⟩
      · rw [h] at n; cases n
      obtain rfl : im = im' := by simpa [h] using h'
      refine ⟨by rw [e]; rfl, drawn, fun o => ?_⟩
      obtain ⟨d, v⟩ := advance_out h o
      refine ⟨fun unfit => by rw [v, if_neg (Bool.eq_false_iff.mp unfit)], fun fit => ?_⟩
      rw [if_pos fit] at v
      by_cases tick : 9 ≤ s.phase
      · obtain ⟨parked, dwell, counted, hp, hd, hp1, hd1, hpm, hdm, -⟩ :=
          countOutlet_spec (sampleOutlet im (tenthOutlet im (s.out o))) d
        rw [if_pos tick, counted] at v
        have waits : dwells (sampleOutlet im (tenthOutlet im (s.out o))) = true ↔
            (s.out o).osc.state = .dwell ∧ (s.out o).acc.stopped = false := dwells_iff
        simp only [v, tick, true_and, if_true, decide_true, Bool.not_true, Bool.false_or]
        refine ⟨?_, hp, fun n => hd (Bool.eq_false_iff.mpr fun m => n (waits.mp m)), hp1, fun n => hd1 (waits.mpr n), hpm,
          fun n => hdm (waits.mpr n)⟩
        simp only [sampleOutlet, tenthOutlet, inSession_iff]
        rfl
      · rw [if_neg tick] at v
        simp only [v, tick, false_and, not_false_eq_true, if_false, decide_false, Bool.not_false, Bool.true_or, Bool.and_true,
          false_implies, and_true]
        exact ⟨rfl, fun _ => rfl, fun _ => rfl⟩
    · have e := advance_not_running fun im n => running ⟨im, n⟩
      rw [e]
      refine ⟨rfl, fun read n => ?_, fun n => ?_, fun _ => ⟨rfl, rfl, rfl, rfl⟩, fun im n => absurd ⟨im, n⟩ running⟩
      · simp only [n, ageRead]; split <;> rfl
      · cases k : s.configured with
        | loading read =>
          cases read with
          | none => exact ite_self _
          | some read => exact absurd k (n read)
        | unconfigured => exact ite_self _
        | running im => exact ite_self _

end Sys2Proof.Machine
end

section
/-! SUPPORT. What the operations of the sessions, the grants and the share leave alone (`Beside`), and which flags a computation raises. -/

namespace Sys2Proof.Machine

/-- The configuration, the timebase, the share line and the roster are as they were. -/
structure Beside (s t : State) : Prop where
  configured : t.configured = s.configured
  now : t.now = s.now
  slc : t.slc = s.slc
  prs : t.prs = s.prs

theorem Beside.refl (s : State) : Beside s s := ⟨rfl, rfl, rfl, rfl⟩

theorem Beside.trans {s t u : State} (h : Beside s t) (k : Beside t u) : Beside s u :=
  ⟨k.configured.trans h.configured, k.now.trans h.now, k.slc.trans h.slc, k.prs.trans h.prs⟩

theorem beside_modOut (s : State) (o : Outlet) (f : OutletState → OutletState) : Beside s (s.modOut o f) := by
  cases o <;> exact ⟨rfl, rfl, rfl, rfl⟩

theorem beside_raise (f : EventFlag) (s : State) : Beside s (raise f s) := ⟨rfl, rfl, rfl, rfl⟩

theorem beside_setSession (o : Outlet) (x : Session) (s : State) : Beside s (setSession o x s) := by
  cases o <;> exact ⟨rfl, rfl, rfl, rfl⟩

theorem beside_rise (hold : Timer) (waiting : Bool) (s : State) :
    Beside s { s with grl.riseHold := hold, grl.riseWaiting := waiting } := ⟨rfl, rfl, rfl, rfl⟩

theorem beside_settleRises (s : State) : Beside s (settleRises s) := by
  unfold settleRises; split
  · exact beside_rise _ _ s
  · exact .refl s

theorem beside_decrease (im : Image) (o : Outlet) (n : Nat) (s : State) : Beside s (decrease im o n s) := beside_modOut ..

theorem beside_withdraw (im : Image) (o : Outlet) (s : State) : Beside s (withdraw im o s) := by
  unfold withdraw
  refine .trans ?_ ((beside_modOut _ o _).trans (beside_settleRises _))
  split
  · exact beside_decrease im o 0 s
  · exact .refl s

theorem beside_park (im : Image) (o : Outlet) (s : State) : Beside s (park im o s) := by
  unfold park
  refine (beside_setSession o .parked s).trans (.trans ?_ (beside_modOut _ o _))
  split
  · exact beside_decrease im o 0 _
  · exact .refl _

theorem beside_resume (o : Outlet) (s : State) : Beside s (resume o s) :=
  (beside_setSession o .dispensing s).trans (beside_modOut _ o _)

theorem beside_handOverAt (im : Image) (o : Outlet) (s : State) : Beside s (handOverAt im o s) := by
  unfold handOverAt
  split
  · dsimp only
    refine .trans (beside_modOut s o fun u => { u with grl.target := (s.out o).share.target }) ?_
    split
    · split
      · exact beside_park im o _
      split
      · exact beside_decrease im o _ _
      split <;> exact beside_modOut ..
    · split
      · exact beside_resume o _
      · exact .refl _
    all_goals exact beside_modOut ..
  · exact .refl s

theorem beside_holdRises (im : Image) (s : State) : Beside s (holdRises im s) := by
  unfold holdRises
  split
  · exact beside_settleRises s
  split
  · exact ⟨rfl, rfl, rfl, rfl⟩
  · exact .refl s

/-- A computation's hand-over, without the update it makes (R46, R47). -/
theorem beside_handOver_compute (im : Image) (s : State) : Beside s (handOver im (compute im s)) :=
  (show Beside s (compute im s) from ⟨rfl, rfl, rfl, rfl⟩).trans
    (((beside_handOverAt im .a _).trans (beside_handOverAt im .b _)).trans (beside_holdRises im _))

theorem beside_serveRises (im : Image) (xs : List Outlet) (n : Nat) (s : State) : Beside s (serveRises im xs n s) := by
  induction xs generalizing n s with
  | nil => exact .refl s
  | cons x xs ih =>
    unfold serveRises
    split
    · exact ih _ _
    · dsimp only
      split
      · exact (beside_modOut s x _).trans (ih _ _)
      · exact ih _ _

theorem beside_evaluateRises (im : Image) (s : State) : Beside s (evaluateRises im s) :=
  (beside_serveRises im _ _ s).trans (beside_rise _ _ _)

theorem beside_tripOutlet (o : Outlet) (cause : TripCause) (s : State) : Beside s (tripOutlet o cause s) := by
  unfold tripOutlet tripGrants
  exact (((beside_modOut s o _).trans (beside_setSession o _ _)).trans (beside_raise _ _)).trans (beside_modOut _ o _)

theorem beside_testStart (o : Outlet) (s : State) : Beside s (testStart o s) := by
  unfold testStart; split
  · exact (beside_modOut s o _).trans (beside_setSession o _ _)
  · exact .refl s

theorem beside_enterQueue (r : Record) (s : State) : Beside s (enterQueue r s) := by
  rw [enterQueue_keeps]; exact ⟨rfl, rfl, rfl, rfl⟩

theorem beside_clearGrants (o : Outlet) (s : State) : Beside s (clearGrants o s) := by
  rw [(clearGrants_keeps o s).1]; exact ⟨rfl, rfl, rfl, rfl⟩

theorem beside_completeClose (o : Outlet) (s : State) : Beside s (completeClose o s) := by
  unfold completeClose
  dsimp only
  refine .trans ?_ (beside_clearGrants o _)
  split
  · exact .trans (.trans (beside_modOut s o _) (beside_enterQueue _ _)) (beside_setSession o _ _)
  · refine .trans ?_ (beside_setSession o _ _)
    cases o <;> exact ⟨rfl, rfl, rfl, rfl⟩

theorem beside_beginOpenWait (im : Image) (o : Outlet) (s : State) : Beside s (beginOpenWait im o s) := by
  unfold beginOpenWait
  dsimp only
  split
  · exact beside_modOut ..
  · exact (beside_modOut s o _).trans (beside_completeClose o _)

theorem beside_serveSettleWait (s : State) : Beside s (serveSettleWait s) := by
  unfold serveSettleWait
  split
  · exact .refl s
  · rename_i o rest _
    have taken : Beside s { s with stu.settleWait := rest } := ⟨rfl, rfl, rfl, rfl⟩
    refine .trans ?_ (((beside_modOut _ _ _).trans (beside_setSession _ _ _)).trans (beside_clearGrants _ _))
    split
    · exact taken.trans (beside_enterQueue _ _)
    · exact taken

theorem beside_enterDwell (im : Image) (o : Outlet) (s : State) : Beside s (enterDwell im o s) :=
  ((beside_modOut s o _).trans (beside_setSession o _ _)).trans (beside_withdraw im o _)

theorem beside_exhaust (im : Image) (o : Outlet) (s : State) : Beside s (exhaust im o s) :=
  (((beside_modOut s o _).trans (beside_setSession o _ _)).trans (beside_raise _ _)).trans (beside_withdraw im o _)

theorem beside_acceptOpen (im : Image) (o : Outlet) (h : Header) (s : State) : Beside s (acceptOpen im o h s) := by
  rw [(acceptOpen_keeps im o h s).1]; exact ⟨rfl, rfl, rfl, rfl⟩

end Sys2Proof.Machine
end

section
/-! SUPPORT. The transmit slot through an event (R8): it stays, or an EMPTY one becomes what an update owes (`SlotMoved`), and an event whose
last announced values differ from its first and from the reference copy leaves no EMPTY slot (`Noted`). -/

namespace Sys2Proof.Machine

/-- From `s` to `t` the slot stays, or an EMPTY slot of a station that announces becomes what an update owes (R8). -/
structure SlotMoved (im : Image) (s t : State) : Prop where
  now : t.now = s.now
  lastDone : t.slc.lastDone = s.slc.lastDone
  reference : t.slc.reference = s.slc.reference
  announces : announces t = announces s
  slot : t.slc.slot = s.slc.slot ∨ s.slc.slot = .empty ∧ Machine.announces s = true ∧ t.slc.slot = slotAtUpdate im s

/-- R8 from `s` to `t`: the slot moves as it may, and it has moved where the announced values are an update. -/
structure Noted (im : Image) (s t : State) : Prop extends SlotMoved im s t where
  owed : s.slc.slot = .empty → Machine.announces s = true → announced im t ≠ announced im s →
    s.slc.reference ≠ some (announced im t) → t.slc.slot = slotAtUpdate im s

theorem slotAtUpdate_ne_empty (im : Image) (s : State) : slotAtUpdate im s ≠ .empty := by
  unfold slotAtUpdate
  split
  · split <;> simp
  · simp

theorem sending_slotAtUpdate (im : Image) (s : State) (frame : OwnFrame) : slotAtUpdate im s ≠ .sending frame := by
  unfold slotAtUpdate
  split
  · split <;> simp
  · simp

theorem SlotMoved.slotAtUpdate {im : Image} {s t : State} (h : SlotMoved im s t) : slotAtUpdate im t = slotAtUpdate im s := by
  unfold Machine.slotAtUpdate; rw [h.now, h.lastDone]

theorem SlotMoved.refl (im : Image) (s : State) : SlotMoved im s s := ⟨rfl, rfl, rfl, rfl, .inl rfl⟩

theorem SlotMoved.trans {im : Image} {s t u : State} (h : SlotMoved im s t) (k : SlotMoved im t u) : SlotMoved im s u := by
  refine ⟨k.now.trans h.now, k.lastDone.trans h.lastDone, k.reference.trans h.reference, k.announces.trans h.announces, ?_⟩
  rcases k.slot with same | ⟨empty, can, moved⟩
  · rw [same]; exact h.slot
  · rcases h.slot with first | ⟨-, -, owed⟩
    · exact .inr ⟨first ▸ empty, h.announces ▸ can, moved.trans h.slotAtUpdate⟩
    · exact absurd (owed.symm.trans empty) (slotAtUpdate_ne_empty im s)

/-- A slot that is not EMPTY stays. -/
theorem SlotMoved.slot_of_ne_empty {im : Image} {s t : State} (h : SlotMoved im s t) (k : s.slc.slot ≠ .empty) :
    t.slc.slot = s.slc.slot := h.slot.resolve_right fun m => k m.1

theorem SlotMoved.of_slc {im : Image} {s t : State} (now : t.now = s.now) (slc : t.slc = s.slc) : SlotMoved im s t :=
  ⟨now, by rw [slc], by rw [slc], by rw [Machine.announces, Machine.announces, slc], .inl (by rw [slc])⟩

theorem Beside.moved {s t : State} (h : Beside s t) (im : Image) : SlotMoved im s t := .of_slc h.now h.slc

theorem moved_noteUpdate (im : Image) (before : Announced) (s : State) : SlotMoved im s (noteUpdate im before s) := by
  rcases noteUpdate_cases im before s with same | ⟨empty, -, -, can, moved⟩
  · rw [same]; exact .refl im s
  · rw [moved]; exact ⟨rfl, rfl, rfl, rfl, .inr ⟨empty, can, rfl⟩⟩

/-- An event that changes no announced value updates none. -/
theorem SlotMoved.noted {im : Image} {s t : State} (h : SlotMoved im s t) (same : announced im t = announced im s) :
    Noted im s t := ⟨h, fun _ _ differs _ => absurd same differs⟩

theorem Noted.refl (im : Image) (s : State) : Noted im s s := (SlotMoved.refl im s).noted rfl

/-- The update at a later moment covers what an earlier one found equal to the reference copy. -/
theorem Noted.trans {im : Image} {s t u : State} (h : Noted im s t) (k : Noted im t u) : Noted im s u := by
  refine ⟨h.toSlotMoved.trans k.toSlotMoved, fun empty can differs news => ?_⟩
  rcases h.slot with same | ⟨-, -, moved⟩
  · by_cases first : announced im t = announced im s
    · rw [← h.slotAtUpdate]
      exact k.owed (same.trans empty) (h.announces ▸ can) (first ▸ differs) (h.reference ▸ news)
    · by_cases known : s.slc.reference = some (announced im t)
      · rw [← h.slotAtUpdate]
        refine k.owed (same.trans empty) (h.announces ▸ can) (fun e => news (known.trans (congrArg some e.symm))) (h.reference ▸ news)
      · exact absurd ((h.owed empty can first known).symm.trans (same.trans empty)) (slotAtUpdate_ne_empty im s)
  · rw [k.slot_of_ne_empty fun e => slotAtUpdate_ne_empty im s (moved.symm.trans e), moved]

/-- The update against the values of the event's start makes up for whatever the event itself did not note. -/
theorem SlotMoved.noteUpdate {im : Image} {s t : State} (h : SlotMoved im s t) : Noted im s (noteUpdate im (announced im s) t) := by
  refine ⟨h.trans (moved_noteUpdate im _ t), fun empty can differs news => ?_⟩
  have values : announced im (Machine.noteUpdate im (announced im s) t) = announced im t := by rw [noteUpdate_keeps]; rfl
  rw [values] at differs news
  rcases h.slot with same | ⟨-, -, moved⟩
  · rw [Machine.noteUpdate, if_pos ⟨differs, h.reference ▸ news, same.trans empty, h.announces ▸ can⟩]
    exact h.slotAtUpdate
  · rw [(moved_noteUpdate im _ t).slot_of_ne_empty fun e => slotAtUpdate_ne_empty im s (moved.symm.trans e), moved]

theorem noted_noted {im : Image} {f : State → State} {s : State} (h : SlotMoved im s (f s)) : Noted im s (noted im f s) :=
  h.noteUpdate

theorem noted_computations (im : Image) (n : Nat) (s : State) : Noted im s (computations im n s) := by
  induction n generalizing s with
  | zero => exact .refl im s
  | succ n ih =>
    have once : Noted im s (computeOnce im s) := noted_noted ((beside_handOver_compute im s).moved im)
    unfold computations
    dsimp only
    split
    · exact once
    · exact once.trans (ih _)

theorem noted_computation (im : Image) (s : State) : Noted im s (computation im s) := noted_computations im 5 s

theorem SlotMoved.triggered {im : Image} {s t : State} (h : SlotMoved im s t) : Noted im s (triggered im s t) :=
  h.noteUpdate.trans (noted_computation im _)

/-- An event outside the line and the roster: of the SLC and the PRS nothing but the slot moves. -/
structure Moves (im : Image) (s t : State) : Prop extends SlotMoved im s t where
  configured : t.configured = s.configured
  prs : t.prs = s.prs
  slc : t.slc = { s.slc with slot := t.slc.slot }

theorem Moves.refl (im : Image) (s : State) : Moves im s s := ⟨.refl im s, rfl, rfl, rfl⟩

theorem Moves.trans {im : Image} {s t u : State} (h : Moves im s t) (k : Moves im t u) : Moves im s u :=
  ⟨h.toSlotMoved.trans k.toSlotMoved, k.configured.trans h.configured, k.prs.trans h.prs, by rw [k.slc, h.slc]⟩

theorem Beside.moves {s t : State} (h : Beside s t) (im : Image) : Moves im s t :=
  ⟨h.moved im, h.configured, h.prs, by rw [h.slc]⟩

theorem moves_noteUpdate (im : Image) (before : Announced) (s : State) : Moves im s (noteUpdate im before s) :=
  ⟨moved_noteUpdate im before s, by simp, by simp, by rw [noteUpdate_keeps]⟩

theorem Shared.moves {im : Image} {s t : State} (h : Shared s t) (k : SlotMoved im s t) : Moves im s t :=
  ⟨k, by rw [h.1]; rfl, by rw [h.1]; rfl, by rw [h.1]; rfl⟩

theorem moves_noted {im : Image} {f : State → State} {s : State} (h : Moves im s (f s)) : Moves im s (noted im f s) :=
  h.trans (moves_noteUpdate im _ _)

theorem moves_releaseRises (im : Image) (s : State) : Moves im s (releaseRises im s) := by
  unfold releaseRises; split
  · exact moves_noted ((beside_evaluateRises im s).moves im)
  · exact .refl im s

theorem moves_trip (im : Image) (o : Outlet) (cause : TripCause) (s : State) : Moves im s (trip im o cause s) := by
  unfold trip; split
  · exact ((moves_noted ((beside_tripOutlet o cause s).moves im)).trans (moves_releaseRises im _)).trans
      ((beside_settleRises _).moves im)
  · exact .refl im s

theorem moves_confirmDecrease (im : Image) (o : Outlet) (s : State) : Moves im s (confirmDecrease im o s) :=
  (moves_noted ((beside_modOut s o _).moves im)).trans (moves_releaseRises im _)

theorem moves_reportOutput (im : Image) (o : Outlet) (s : State) : Moves im s (reportOutput im o s) := by
  unfold reportOutput; split
  · exact moves_noted ((beside_beginOpenWait im o s).moves im)
  · exact .refl im s

theorem moves_acceptClose (im : Image) (o : Outlet) (s : State) : Moves im s (acceptClose im o s) := by
  unfold acceptClose
  dsimp only
  split
  · exact (((beside_modOut s o _).trans (beside_setSession o _ _)).trans (beside_beginOpenWait im o _)).moves im
  · exact ((((beside_modOut s o _).trans (beside_setSession o _ _)).trans
      ((beside_modOut _ o _).trans (beside_withdraw im o _))).moves im).trans (moves_reportOutput im o _)

/-- An event outside the line and the roster that notes its updates. -/
def Follows (im : Image) (s t : State) : Prop := Moves im s t ∧ Noted im s t

theorem Follows.refl (im : Image) (s : State) : Follows im s s := ⟨.refl im s, .refl im s⟩

theorem Follows.trans {im : Image} {s t u : State} (h : Follows im s t) (k : Follows im t u) : Follows im s u :=
  ⟨h.1.trans k.1, h.2.trans k.2⟩

theorem Moves.triggered {im : Image} {s t : State} (h : Moves im s t) : Follows im s (triggered im s t) :=
  ⟨h.trans ((shared_triggered im s t).moves ((moved_noteUpdate im _ t).trans (noted_computation im _).toSlotMoved)),
    h.toSlotMoved.triggered⟩

/-- The end of an event at an outlet notes all its updates (R8, R46). -/
theorem Moves.outletEvent {im : Image} {s t : State} (h : Moves im s t) : Follows im s (outletEvent im s t) := by
  unfold Machine.outletEvent; split
  · exact ⟨h.trans (moves_noteUpdate im _ t), h.toSlotMoved.noteUpdate⟩
  · exact h.triggered

end Sys2Proof.Machine
end

section
/-! SUPPORT. What every row outside the line, the roster and the start-up leaves of the SLC, the PRS and the configuration (`Elsewhere`). -/

namespace Sys2Proof.Machine

/-- What the announced values take from an outlet (R70). -/
def announcedPart (u : OutletState) : Session × Nat × Nat × Nat × Option Nat :=
  (u.osc.state, u.share.split, u.osc.header.tier, u.grl.inEffect, u.grl.pending)

/-- The announced values are those of the PRS and of what the outlets' parts show. -/
theorem announced_congr {im : Image} {s t : State} (prs : t.prs = s.prs) (a : announcedPart t.outA = announcedPart s.outA)
    (b : announcedPart t.outB = announcedPart s.outB) : announced im t = announced im s := by
  have claim : ∀ u v : OutletState, announcedPart u = announcedPart v → ownClaim im u = ownClaim im v := by
    intro u v e
    simp only [announcedPart, Prod.mk.injEq] at e
    obtain ⟨state, split, tier, -, -⟩ := e
    unfold ownClaim
    rw [state, split, tier]
  have grants : ∀ u v : OutletState, announcedPart u = announcedPart v → u.grl.inEffect = v.grl.inEffect ∧ u.grl.pending = v.grl.pending := by
    intro u v e
    simp only [announcedPart, Prod.mk.injEq] at e
    exact ⟨e.2.2.2.1, e.2.2.2.2⟩
  simp only [announced, stationGranted, stationIntended, claim _ _ a, claim _ _ b, prs, (grants _ _ a).1, (grants _ _ a).2,
    (grants _ _ b).1, (grants _ _ b).2]

/-- The line, the roster and every announced value are as they were. -/
def Quiet (s t : State) : Prop := Beside s t ∧ ∀ im, announced im t = announced im s

theorem Quiet.refl (s : State) : Quiet s s := ⟨.refl s, fun _ => rfl⟩

theorem Quiet.trans {s t u : State} (h : Quiet s t) (k : Quiet t u) : Quiet s u :=
  ⟨h.1.trans k.1, fun im => (k.2 im).trans (h.2 im)⟩

theorem Quiet.follows {s t : State} (h : Quiet s t) (im : Image) : Follows im s t :=
  ⟨h.1.moves im, (h.1.moved im).noted (h.2 im)⟩

theorem quiet_modOut (s : State) (o : Outlet) (f : OutletState → OutletState)
    (h : announcedPart (f (s.out o)) = announcedPart (s.out o)) : Quiet s (s.modOut o f) := by
  refine ⟨beside_modOut s o f, fun im => ?_⟩
  cases o
  · exact announced_congr rfl h rfl
  · exact announced_congr rfl rfl h

theorem quiet_grl (s : State) (x : GrlStation) : Quiet s { s with grl := x } := ⟨⟨rfl, rfl, rfl, rfl⟩, fun _ => rfl⟩

theorem quiet_eStop (s : State) (x : Filter) : Quiet s { s with eStop := x } := ⟨⟨rfl, rfl, rfl, rfl⟩, fun _ => rfl⟩

theorem quiet_draws (s : State) (n : Nat) : Quiet s { s with draws := n } := ⟨⟨rfl, rfl, rfl, rfl⟩, fun _ => rfl⟩

theorem quiet_tru (s : State) (x : Tru) : Quiet s { s with tru := x } := ⟨⟨rfl, rfl, rfl, rfl⟩, fun _ => rfl⟩

theorem quiet_hpt (s : State) (x : Hpt) : Quiet s { s with hpt := x } := ⟨⟨rfl, rfl, rfl, rfl⟩, fun _ => rfl⟩

theorem quiet_raise (f : EventFlag) (s : State) : Quiet s (raise f s) := quiet_hpt s _

theorem quiet_respond (x : Status) (code : Nat) (p : List Byte) (s : State) : Quiet s (respond x code p s) := quiet_hpt s _

theorem quiet_refuse (x : Status) (code : Nat) (s : State) : Quiet s (refuse x code s) := quiet_hpt s _

theorem quiet_answerPending (s : State) : Quiet s (answerPending s) := quiet_hpt s _

theorem quiet_finishCaptured (c : Instr) (s : State) : Quiet s (finishCaptured c s) := by
  rw [finishCaptured_keeps]; exact quiet_hpt s _

/-- A row outside the line, the roster and the start-up: in RUNNING the slot follows R8, and nothing else of the SLC and the PRS changes; in any
other configured state nothing of them does. -/
def Elsewhere (s t : State) : Prop :=
  (∀ im, s.configured = .running im → Follows im s t) ∧ ((∀ im, s.configured ≠ .running im) → Beside s t)

theorem Quiet.elsewhere {s t : State} (h : Quiet s t) : Elsewhere s t := ⟨fun im _ => h.follows im, fun _ => h.1⟩

theorem Elsewhere.refl (s : State) : Elsewhere s s := (Quiet.refl s).elsewhere

theorem Elsewhere.trans_quiet {s t u : State} (h : Elsewhere s t) (k : Quiet t u) : Elsewhere s u :=
  ⟨fun im r => (h.1 im r).trans (k.follows im), fun n => (h.2 n).trans k.1⟩

theorem Quiet.trans_elsewhere {s t u : State} (h : Quiet s t) (k : Elsewhere t u) : Elsewhere s u :=
  ⟨fun im r => (h.follows im).trans (k.1 im (h.1.configured.trans r)), fun n => h.1.trans (k.2 fun im r => n im (h.1.configured ▸ r))⟩

theorem follows_ite {im : Image} {p : Prop} [Decidable p] {s t : State} (h : Follows im s t) : Follows im s (if p then t else s) := by
  split
  · exact h
  · exact .refl im s

theorem follows_ite_not {im : Image} {p : Prop} [Decidable p] {s t : State} (h : Follows im s t) : Follows im s (if p then s else t) := by
  split
  · exact .refl im s
  · exact h

theorem elsewhere_whenRunning {s : State} {f : Image → State} (h : ∀ im, Follows im s (f im)) : Elsewhere s (whenRunning s f) :=
  ⟨fun im r => by rw [whenRunning_running r]; exact h im, fun n => by rw [whenRunning_not_running n]; exact .refl s⟩

theorem elsewhere_whenFitted {s : State} {o : Outlet} {f : Image → State} (h : ∀ im, Follows im s (f im)) :
    Elsewhere s (whenFitted s o f) :=
  elsewhere_whenRunning fun im => by
    split
    · exact h im
    · exact .refl im s

/-- A command that every configured state takes, where it does no more than answer or what its own meaning does. -/
theorem elsewhere_hostAny (c : Instr) {f : State → State} {s : State} (h : ∀ u, Elsewhere u (f u)) : Elsewhere s (hostAny c f s) := by
  unfold hostAny
  split
  · exact (quiet_answerPending s).elsewhere
  · exact (quiet_finishCaptured c s).trans_elsewhere (h _)
  · split
    · exact (quiet_answerPending s).elsewhere
    · exact (quiet_finishCaptured c s).trans_elsewhere (h _)

/-- A command of a RUNNING part. -/
theorem elsewhere_hostRunning (c : Instr) (code : Nat) {f : Image → State → State} {s : State} (h : ∀ im u, Follows im u (f im u)) :
    Elsewhere s (hostRunning c code f s) := by
  unfold hostRunning
  split
  · exact (quiet_answerPending s).elsewhere
  · exact ((quiet_finishCaptured c s).trans (quiet_refuse _ _ _)).elsewhere
  · rename_i im r
    split
    · exact (quiet_answerPending s).elsewhere
    · refine (quiet_finishCaptured c s).trans_elsewhere ⟨fun im' r' => ?_, fun n => absurd ?_ (n im)⟩
      · have : im' = im := by simpa [r, (quiet_finishCaptured c s).1.configured] using r'.symm
        exact this ▸ h im _
      · exact (quiet_finishCaptured c s).1.configured.trans r

/-- An answer after an event. -/
theorem Follows.respond {im : Image} {s t : State} (h : Follows im s t) (x : Status) (code : Nat) (p : List Byte) :
    Follows im s (respond x code p t) := h.trans ((quiet_respond x code p t).follows im)

-- The rows of the grants (spec/04).

theorem follows_tripEvent (im : Image) (o : Outlet) (cause : TripCause) (s : State) (f : OutletState → OutletState)
    (h : announcedPart (f (s.out o)) = announcedPart (s.out o)) : Follows im s (tripEvent im o cause (s.modOut o f)) :=
  ((quiet_modOut s o f h).follows im).trans (moves_trip im o cause _).outletEvent

theorem announcedPart_endWord (u : OutletState) : announcedPart (endWord u) = announcedPart u := by
  unfold endWord; dsimp only; split <;> rfl

theorem elsewhere_riseHoldExpiry (s : State) : ∃ t, execRiseHoldExpiry s = .next t ∧ Elsewhere s t := by
  refine ⟨_, rfl, elsewhere_whenRunning fun im => follows_ite ?_⟩
  dsimp only
  have stopped := quiet_grl s { s.grl with riseHold := none }
  split
  · have rises := (beside_evaluateRises im { s with grl.riseHold := none }).moves im
    exact (stopped.follows im).trans ⟨moves_noted rises, noted_noted rises.toSlotMoved⟩
  · exact (stopped.trans (quiet_grl _ _)).follows im

theorem elsewhere_setpointWordEnd (o : Outlet) (s : State) : ∃ t, execSetpointWordEnd o s = .next t ∧ Elsewhere s t :=
  ⟨_, rfl, elsewhere_whenFitted fun im => follows_ite ((quiet_modOut s o _ (announcedPart_endWord _)).follows im)⟩

theorem elsewhere_confirmation (o : Outlet) (s : State) : ∃ t, execConfirmation o s = .next t ∧ Elsewhere s t := by
  refine ⟨_, rfl, elsewhere_whenFitted fun im => follows_ite_not ?_⟩
  have high := quiet_modOut s o settledHigh rfl
  dsimp only
  split
  · exact ((high.1.moves im).trans ((moves_confirmDecrease im o _).trans (moves_reportOutput im o _))).outletEvent
  · exact high.follows im

theorem elsewhere_settledRecognisedLow (o : Outlet) (s : State) :
    ∃ t, execSettledRecognisedLow o s = .next t ∧ Elsewhere s t :=
  ⟨_, rfl, elsewhere_whenFitted fun im => follows_ite ((quiet_modOut s o _ (by rfl)).follows im)⟩

theorem elsewhere_confirmTimeout (o : Outlet) (s : State) : ∃ t, execConfirmTimeout o s = .next t ∧ Elsewhere s t :=
  ⟨_, rfl, elsewhere_whenFitted fun im => follows_ite (follows_tripEvent im o _ s _ (by rfl))⟩

theorem elsewhere_parkHoldExpiry (o : Outlet) (s : State) : ∃ t, execParkHoldExpiry o s = .next t ∧ Elsewhere s t := by
  refine ⟨_, rfl, elsewhere_whenFitted fun im => ?_⟩
  split
  · exact (quiet_modOut s o _ (by rfl)).follows im
  · exact .refl im s
  · exact .refl im s

-- The rows of the outlets' inputs and timers (spec/05).

theorem moves_tripBoth (im : Image) (s : State) : Moves im s (tripBoth im s) := by
  have drawn : Moves im s (if s.grl.riseWaiting then { s with draws := s.draws + 1 } else s) := by
    split
    · exact (quiet_draws s _).1.moves im
    · exact .refl im s
  unfold tripBoth
  dsimp only
  split
  · exact (drawn.trans (moves_trip im .b _ _)).trans (moves_trip im .a _ _)
  · exact (drawn.trans (moves_trip im .a _ _)).trans (moves_trip im .b _ _)

theorem moves_feedbackOpened (im : Image) (o : Outlet) (s : State) : Moves im s (feedbackOpened im o s) := by
  unfold feedbackOpened
  split
  · exact (beside_completeClose o s).moves im
  split
  · exact (beside_modOut s o _).moves im
  split
  · exact (beside_modOut s o _).moves im
  · exact .refl im s

theorem elsewhere_eStopAsserted (s : State) : ∃ t, execEStopAsserted s = .next t ∧ Elsewhere s t :=
  ⟨_, rfl, elsewhere_whenRunning fun im => follows_ite_not
    (((quiet_eStop s _).1.moves im).trans (moves_tripBoth im _)).outletEvent⟩

theorem elsewhere_eStopReleased (s : State) : ∃ t, execEStopReleased s = .next t ∧ Elsewhere s t :=
  ⟨_, rfl, elsewhere_whenRunning fun im => follows_ite ((quiet_eStop s _).follows im)⟩

theorem elsewhere_holdChange (o : Outlet) (released : Bool) (s : State) :
    ∃ t, execHoldChange o released s = .next t ∧ Elsewhere s t :=
  ⟨_, rfl, elsewhere_whenFitted fun im => follows_ite_not
    (((beside_modOut s o _).trans (beside_testStart o _)).moves im).outletEvent⟩

theorem elsewhere_faultAsserted (o : Outlet) (s : State) : ∃ t, execFaultAsserted o s = .next t ∧ Elsewhere s t :=
  ⟨_, rfl, elsewhere_whenFitted fun im => follows_ite_not
    (((beside_modOut s o _).moves im).trans (moves_trip im o _ _)).outletEvent⟩

theorem elsewhere_faultReleased (o : Outlet) (s : State) : ∃ t, execFaultReleased o s = .next t ∧ Elsewhere s t :=
  ⟨_, rfl, elsewhere_whenFitted fun im => follows_ite ((quiet_modOut s o _ (by rfl)).follows im)⟩

theorem elsewhere_feedbackClosed (o : Outlet) (s : State) : ∃ t, execFeedbackClosed o s = .next t ∧ Elsewhere s t :=
  ⟨_, rfl, elsewhere_whenFitted fun im => follows_ite_not
    (((beside_modOut s o _).trans (beside_testStart o _)).moves im).outletEvent⟩

theorem elsewhere_feedbackOpen (o : Outlet) (s : State) : ∃ t, execFeedbackOpen o s = .next t ∧ Elsewhere s t :=
  ⟨_, rfl, elsewhere_whenFitted fun im => follows_ite
    (((beside_modOut s o _).moves im).trans (moves_feedbackOpened im o _)).outletEvent⟩

theorem elsewhere_mismatchTimerExpiry (o : Outlet) (s : State) : ∃ t, execMismatchTimerExpiry o s = .next t ∧ Elsewhere s t :=
  ⟨_, rfl, elsewhere_whenFitted fun im => follows_ite (follows_tripEvent im o _ s _ (by rfl))⟩

theorem elsewhere_startTimerExpiry (o : Outlet) (s : State) : ∃ t, execStartTimerExpiry o s = .next t ∧ Elsewhere s t :=
  ⟨_, rfl, elsewhere_whenFitted fun im => follows_ite (follows_tripEvent im o _ s _ (by rfl))⟩

theorem elsewhere_closeTimerExpiry (o : Outlet) (s : State) : ∃ t, execCloseTimerExpiry o s = .next t ∧ Elsewhere s t :=
  ⟨_, rfl, elsewhere_whenFitted fun im => follows_ite
    (((beside_modOut s o _).trans (beside_completeClose o _)).moves im).outletEvent⟩

-- The rows of the meter, the dwell minute and the clock (spec/06, spec/08).

theorem quiet_accruePulse (im : Image) (o : Outlet) (p : Priced) (s : State) : Quiet s (accruePulse im o p s) := by
  have looked : Quiet s (noteLookup o p s) := by
    unfold noteLookup
    dsimp only
    split
    · exact (quiet_modOut s o _ (by rfl)).trans (quiet_raise _ _)
    · exact quiet_modOut s o _ (by rfl)
  unfold accruePulse
  exact looked.trans (quiet_modOut _ o _ (by rfl))

theorem follows_testOverDraw (im : Image) (o : Outlet) (s : State) : Follows im s (testOverDraw im o s) := by
  unfold testOverDraw
  dsimp only
  split
  · exact follows_tripEvent im o _ s _ (by rfl)
  · exact (quiet_modOut s o _ (by rfl)).follows im

theorem follows_captureInterval (im : Image) (o : Outlet) (s : State) : Follows im s (captureInterval im o s) := by
  unfold captureInterval
  split
  · exact .refl im s
  · exact (quiet_modOut s o _ (by rfl)).follows im
  · exact (quiet_modOut s o _ (by rfl)).follows im
  · exact ((quiet_modOut s o _ (by rfl)).follows im).trans (follows_testOverDraw im o _)

theorem follows_billPulse (im : Image) (o : Outlet) (s : State) : Follows im s (billPulse im o s) := by
  have credit : ∀ p u, Moves im u (checkCredit im o p u) := fun p u => by
    unfold checkCredit
    dsimp only
    split
    · exact (beside_exhaust im o u).moves im
    · exact .refl im u
  exact (((quiet_accruePulse im o _ s).follows im).trans (credit _ _).outletEvent).trans (follows_captureInterval im o _)

theorem elsewhere_meterPulse (o : Outlet) (s : State) : ∃ t, execMeterPulse o s = .next t ∧ Elsewhere s t := by
  refine ⟨_, rfl, elsewhere_whenFitted fun im => follows_ite_not ?_⟩
  have active := quiet_modOut s o (fun u => { u with mtf.pulse := recognise true u.mtf.pulse }) rfl
  dsimp only
  split
  · exact (active.follows im).trans (follows_billPulse im o _)
  · exact (active.trans ((quiet_modOut _ o _ (by rfl)).trans (quiet_raise _ _))).follows im

theorem elsewhere_pulseRecognisedInactive (o : Outlet) (s : State) :
    ∃ t, execPulseRecognisedInactive o s = .next t ∧ Elsewhere s t :=
  ⟨_, rfl, elsewhere_whenFitted fun im => follows_ite ((quiet_modOut s o _ (by rfl)).follows im)⟩

theorem elsewhere_noFlow (o : Outlet) (s : State) : ∃ t, execNoFlow o s = .next t ∧ Elsewhere s t :=
  ⟨_, rfl, elsewhere_whenFitted fun im => follows_ite ((quiet_modOut s o _ (by rfl)).follows im)⟩

theorem elsewhere_dwellMinute (o : Outlet) (s : State) : ∃ t, execDwellMinute o s = .next t ∧ Elsewhere s t := by
  have charged : ∀ r : Accounts × Nat, Quiet s { s.modOut o (fun u => { u with acc := r.1 }) with draws := r.2 } :=
    fun r => (quiet_modOut s o _ (by rfl)).trans (quiet_draws _ _)
  exact ⟨_, rfl, elsewhere_whenFitted fun im => follows_ite ((charged _).follows im)⟩

theorem elsewhere_tariffClockAdvance (s : State) : ∃ t, execTariffClockAdvance s = .next t ∧ Elsewhere s t :=
  ⟨_, rfl, Quiet.elsewhere ⟨⟨rfl, rfl, rfl, rfl⟩, fun _ => rfl⟩⟩

-- The rows of the host port (spec/09) that neither configure nor restart the part.

theorem elsewhere_pending (s : State) : ∃ t, execPending s = .next t ∧ Elsewhere s t := by
  unfold execPending
  split
  · exact ⟨_, rfl, ((quiet_answerPending s).trans (quiet_hpt _ _)).elsewhere⟩
  · exact ⟨_, rfl, .refl s⟩

theorem elsewhere_chipSelectRise (bytes : List Byte) (s : State) :
    ∃ t, execChipSelectRise bytes s = .next t ∧ Elsewhere s t := by
  refine ⟨_, rfl, ?_⟩
  split
  · exact ((quiet_draws s _).trans (quiet_hpt _ _)).elsewhere
  split
  · exact (quiet_hpt s _).elsewhere
  · exact (quiet_hpt s _).elsewhere

theorem elsewhere_unknownCommand (bytes : List Byte) (s : State) :
    ∃ t, execUnknownCommand bytes s = .next t ∧ Elsewhere s t := by
  unfold execUnknownCommand
  split
  · exact ⟨_, rfl, .refl s⟩
  · refine ⟨_, rfl, elsewhere_hostAny _ fun u => ?_⟩
    split
    · exact (quiet_refuse _ _ u).elsewhere
    · exact .refl u

theorem elsewhere_nop (s : State) : ∃ t, execNop s = .next t ∧ Elsewhere s t :=
  ⟨_, rfl, elsewhere_hostAny _ fun u => (quiet_respond _ _ _ u).elsewhere⟩

theorem elsewhere_status (s : State) : ∃ t, execStatus s = .next t ∧ Elsewhere s t :=
  ⟨_, rfl, elsewhere_hostAny _ fun u => (quiet_respond _ _ _ u).elsewhere⟩

theorem elsewhere_lineStatus (s : State) : ∃ t, execLineStatus s = .next t ∧ Elsewhere s t :=
  ⟨_, rfl, elsewhere_hostRunning _ _ fun im u => (quiet_respond _ _ _ u).follows im⟩

theorem elsewhere_setClock (minute : BitVec 16) (seconds : Byte) (s : State) :
    ∃ t, execSetClock minute seconds s = .next t ∧ Elsewhere s t := by
  refine ⟨_, rfl, elsewhere_hostRunning _ _ fun im u => ?_⟩
  split
  · exact (quiet_refuse _ _ u).follows im
  · exact ((quiet_tru u _).trans (quiet_respond _ _ _ _)).follows im

theorem elsewhere_openSession (outlet : Byte) (reference hold : BitVec 32) (tier : Byte) (demand floor : BitVec 16) (s : State) :
    ∃ t, execOpenSession outlet reference hold tier demand floor s = .next t ∧ Elsewhere s t := by
  refine ⟨_, rfl, elsewhere_hostRunning _ _ fun im u => ?_⟩
  split
  · exact (quiet_refuse _ _ u).follows im
  split
  · exact (quiet_refuse _ _ u).follows im
  · exact ((beside_acceptOpen im _ _ u).moves im).triggered.respond _ _ _

theorem moves_demandTaken (im : Image) (s : State) (d f : Nat) {after : Option State}
    (h : ∀ t, after = some t → Beside s t) : Follows im s (demandTaken im s d f after) := by
  unfold demandTaken
  split
  · exact (quiet_refuse _ _ s).follows im
  · exact ((h _ rfl).moves im).triggered.respond _ _ _

theorem beside_takeDemand {o : Outlet} {d f : Nat} {s t : State} (h : takeDemand o d f s = some t) : Beside s t := by
  unfold takeDemand at h
  split at h
  case h_4 =>
    cases h
    split
    · exact (beside_modOut s o _).trans (beside_setSession o _ _)
    · exact beside_modOut s o _
  all_goals cases h
  all_goals exact beside_modOut s o _

theorem beside_takeComplete {im : Image} {o : Outlet} {s t : State} (h : takeComplete im o s = some t) : Beside s t := by
  unfold takeComplete at h
  split at h <;> cases h
  · exact beside_enterDwell im o s
  · exact beside_enterDwell im o s
  · exact beside_modOut s o _

theorem elsewhere_setDemand (outlet : Byte) (demand floor : BitVec 16) (complete : Byte) (s : State) :
    ∃ t, execSetDemand outlet demand floor complete s = .next t ∧ Elsewhere s t := by
  refine ⟨_, rfl, elsewhere_hostRunning _ _ fun im u => ?_⟩
  split
  · exact (quiet_refuse _ _ u).follows im
  split
  · exact (quiet_refuse _ _ u).follows im
  split
  · exact moves_demandTaken im u 0 0 fun t h => beside_takeComplete h
  · exact moves_demandTaken im u _ _ fun t h => beside_takeDemand h

theorem elsewhere_closeSession (outlet : Byte) (s : State) : ∃ t, execCloseSession outlet s = .next t ∧ Elsewhere s t := by
  refine ⟨_, rfl, elsewhere_hostRunning _ _ fun im u => ?_⟩
  split
  · exact (quiet_refuse _ _ u).follows im
  split
  · exact (quiet_refuse _ _ u).follows im
  split
  · exact (moves_acceptClose im _ u).triggered.respond _ _ _
  · exact (quiet_refuse _ _ u).follows im

theorem elsewhere_outletStatus (outlet : Byte) (s : State) : ∃ t, execOutletStatus outlet s = .next t ∧ Elsewhere s t := by
  refine ⟨_, rfl, elsewhere_hostRunning _ _ fun im u => ?_⟩
  split
  · exact (quiet_refuse _ _ u).follows im
  · exact (quiet_respond _ _ _ u).follows im

theorem elsewhere_rosterRead (id : Byte) (s : State) : ∃ t, execRosterRead id s = .next t ∧ Elsewhere s t := by
  refine ⟨_, rfl, elsewhere_hostRunning _ _ fun im u => ?_⟩
  split
  · exact (quiet_refuse _ _ u).follows im
  · exact (quiet_respond _ _ _ u).follows im

theorem elsewhere_tariffLoad (bank : Byte) (image : Vector Byte 57) (s : State) :
    ∃ t, execTariffLoad bank image s = .next t ∧ Elsewhere s t := by
  refine ⟨_, rfl, elsewhere_hostRunning _ _ fun im u => ?_⟩
  split
  · exact (quiet_refuse _ _ u).follows im
  split
  · exact (quiet_refuse _ _ u).follows im
  split
  · exact ((quiet_tru u _).trans (quiet_respond _ _ _ _)).follows im
  · exact (quiet_refuse _ _ u).follows im

theorem elsewhere_tariffSelect (bank : Byte) (s : State) : ∃ t, execTariffSelect bank s = .next t ∧ Elsewhere s t := by
  refine ⟨_, rfl, elsewhere_hostRunning _ _ fun im u => ?_⟩
  split
  · exact (quiet_refuse _ _ u).follows im
  split
  · exact ((quiet_tru u _).trans (quiet_respond _ _ _ _)).follows im
  · exact (quiet_refuse _ _ u).follows im

theorem elsewhere_tariffRead (bank : Byte) (s : State) : ∃ t, execTariffRead bank s = .next t ∧ Elsewhere s t := by
  refine ⟨_, rfl, elsewhere_hostRunning _ _ fun im u => ?_⟩
  split
  · exact (quiet_refuse _ _ u).follows im
  · exact (quiet_respond _ _ _ u).follows im

theorem elsewhere_recordPeek (s : State) : ∃ t, execRecordPeek s = .next t ∧ Elsewhere s t := by
  refine ⟨_, rfl, elsewhere_hostRunning _ _ fun im u => ?_⟩
  split
  · exact (quiet_refuse _ _ u).follows im
  · exact (quiet_respond _ _ _ u).follows im

theorem elsewhere_recordRelease (s : State) : ∃ t, execRecordRelease s = .next t ∧ Elsewhere s t := by
  refine ⟨_, rfl, elsewhere_hostRunning _ _ fun im u => ?_⟩
  split
  · exact (quiet_refuse _ _ u).follows im
  · rename_i rest _
    have released : Beside u { u with stu.queue := rest } := ⟨rfl, rfl, rfl, rfl⟩
    exact ((released.trans (beside_serveSettleWait _)).moves im).outletEvent.respond _ _ _

theorem elsewhere_events (clear : BitVec 16) (s : State) : ∃ t, execEvents clear s = .next t ∧ Elsewhere s t := by
  refine ⟨_, rfl, elsewhere_hostAny _ fun u => ?_⟩
  split
  · exact (quiet_refuse _ _ u).elsewhere
  · exact ((quiet_hpt u _).trans (quiet_respond _ _ _ _)).elsewhere

theorem elsewhere_eventEnable (enable : BitVec 16) (s : State) : ∃ t, execEventEnable enable s = .next t ∧ Elsewhere s t := by
  refine ⟨_, rfl, elsewhere_hostRunning _ _ fun im u => ?_⟩
  split
  · exact (quiet_refuse _ _ u).follows im
  · exact ((quiet_hpt u _).trans (quiet_respond _ _ _ _)).follows im

/-- The rows of the start-up, of the share line and of the roster, which change more of the SLC and the PRS than the slot. -/
def changesLine : Instr → Bool
  | .powerOn | .resetLineAsserted | .resetLineReleased | .configurationReadEnd _ | .passTimeout | .configure _ | .restart => true
  | .leaveTimerExpiry | .sharePeriodTick | .quarterPeriodMark | .attemptStart | .arbitrationLoss | .bitError => true
  | .restTimerExpiry | .ownFrameCompletion _ | .stuffViolation | .announceReceived _ _ | .leaveReceived _ _ => true
  | .lineIdle | .frameStartBit => true
  | _ => false

/-- Every other row, of the host port, the grants, the outlets and the meter, is `Elsewhere`. -/
theorem exec_elsewhere (c : Instr) (s : State) (h : changesLine c = false) : ∃ t, exec c s = .next t ∧ Elsewhere s t := by
  cases c with
  | powerOn | resetLineAsserted | resetLineReleased | configurationReadEnd | passTimeout | configure | restart => cases h
  | leaveTimerExpiry | sharePeriodTick | quarterPeriodMark | attemptStart | arbitrationLoss | bitError => cases h
  | restTimerExpiry | ownFrameCompletion | stuffViolation | announceReceived | leaveReceived | lineIdle | frameStartBit => cases h
  | pending => exact elsewhere_pending s
  | unknownCommand bytes => exact elsewhere_unknownCommand bytes s
  | nop => exact elsewhere_nop s
  | status => exact elsewhere_status s
  | lineStatus => exact elsewhere_lineStatus s
  | setClock => exact elsewhere_setClock _ _ s
  | openSession => exact elsewhere_openSession _ _ _ _ _ _ s
  | setDemand => exact elsewhere_setDemand _ _ _ _ s
  | closeSession => exact elsewhere_closeSession _ s
  | outletStatus => exact elsewhere_outletStatus _ s
  | rosterRead => exact elsewhere_rosterRead _ s
  | tariffLoad => exact elsewhere_tariffLoad _ _ s
  | tariffSelect => exact elsewhere_tariffSelect _ s
  | tariffRead => exact elsewhere_tariffRead _ s
  | recordPeek => exact elsewhere_recordPeek s
  | recordRelease => exact elsewhere_recordRelease s
  | events => exact elsewhere_events _ s
  | eventEnable => exact elsewhere_eventEnable _ s
  | riseHoldExpiry => exact elsewhere_riseHoldExpiry s
  | setpointWordEnd o => exact elsewhere_setpointWordEnd o s
  | confirmation o => exact elsewhere_confirmation o s
  | confirmTimeout o => exact elsewhere_confirmTimeout o s
  | parkHoldExpiry o => exact elsewhere_parkHoldExpiry o s
  | eStopAsserted => exact elsewhere_eStopAsserted s
  | eStopReleased => exact elsewhere_eStopReleased s
  | holdChange o released => exact elsewhere_holdChange o released s
  | faultAsserted o => exact elsewhere_faultAsserted o s
  | faultReleased o => exact elsewhere_faultReleased o s
  | feedbackClosed o => exact elsewhere_feedbackClosed o s
  | feedbackOpen o => exact elsewhere_feedbackOpen o s
  | mismatchTimerExpiry o => exact elsewhere_mismatchTimerExpiry o s
  | startTimerExpiry o => exact elsewhere_startTimerExpiry o s
  | closeTimerExpiry o => exact elsewhere_closeTimerExpiry o s
  | meterPulse o => exact elsewhere_meterPulse o s
  | noFlow o => exact elsewhere_noFlow o s
  | dwellMinute o => exact elsewhere_dwellMinute o s
  | settledRecognisedLow o => exact elsewhere_settledRecognisedLow o s
  | pulseRecognisedInactive o => exact elsewhere_pulseRecognisedInactive o s
  | tariffClockAdvance => exact elsewhere_tariffClockAdvance s
  | chipSelectRise bytes => exact elsewhere_chipSelectRise bytes s

end Sys2Proof.Machine
end


section
/-! SUPPORT. The share line's own rows (R3 to R20): what each leaves of the SLC, and that it keeps the SLC in order. -/

namespace Sys2Proof.Machine

theorem sending_iff {s : State} : sending s = true ↔ ∃ frame, s.slc.slot = .sending frame := by
  unfold sending; split <;> simp_all

theorem sending_eq_false {s : State} : sending s = false ↔ ∀ frame, s.slc.slot ≠ .sending frame := by
  rw [← Bool.not_eq_true, sending_iff, not_exists]

-- The end of an event at the PRS (R39 to R41).

theorem beside_evaluateMode_slc (im : Image) (s : State) :
    (evaluateMode im s).slc = s.slc ∧ (evaluateMode im s).configured = s.configured ∧ (evaluateMode im s).now = s.now ∧
      (evaluateMode im s).outA = s.outA ∧ (evaluateMode im s).outB = s.outB := by
  rw [(evaluateMode_spec im s).2.2]; exact ⟨rfl, rfl, rfl, rfl, rfl⟩

/-- The end of an event at the PRS is a mode evaluation, and then the slot and the share follow. -/
theorem moves_finishRoster (im : Image) (before s : State) : Moves im (evaluateMode im s) (finishRoster im before s) := by
  have noted := moves_noteUpdate im (announced im before) (evaluateMode im s)
  unfold finishRoster
  dsimp only
  split
  · exact noted.trans ((shared_computation im _).moves (noted_computation im _).toSlotMoved)
  · exact noted

/-- A slot that owes or sends a frame keeps the SLC as it is at the end of an event at the PRS. -/
theorem finishRoster_slc {im : Image} {before s : State} (h : s.slc.slot ≠ .empty) : (finishRoster im before s).slc = s.slc := by
  have moves := moves_finishRoster im before s
  have slc := (beside_evaluateMode_slc im s).1
  rw [moves.slc, moves.toSlotMoved.slot_of_ne_empty (slc ▸ h), slc]

theorem finishRoster_configured (im : Image) (before s : State) : (finishRoster im before s).configured = s.configured :=
  (moves_finishRoster im before s).configured.trans (beside_evaluateMode_slc im s).2.1

/-- The end of an event at the PRS notes the event's updates (R8, R40). -/
theorem SlotMoved.finishRoster {im : Image} {before s : State} (h : SlotMoved im before s) :
    Noted im before (finishRoster im before s) := by
  obtain ⟨slc, -, now, -, -⟩ := beside_evaluateMode_slc im s
  have noted := (h.trans (.of_slc now slc)).noteUpdate (im := im)
  unfold Machine.finishRoster
  dsimp only
  split
  · exact noted.trans (noted_computation im _)
  · exact noted

-- The SLC in order (R7, R11, R13, R19).

/-- What `LineSafe` says of the SLC alone. -/
structure SlcSafe (x : Slc) : Prop where
  barred : x.tx = .barred → x.slot = .empty
  on : ∀ frame, x.slot = .sending frame → x.tx = .on
  owed : x.tickOwed = true → ∃ frame, x.slot = .sending frame
  rest : x.restTimer.isSome = true ↔ x.tx = .resting
  run : x.tx = .on → x.bitErrorRun < 16
  counts : x.bitErrorRun ≤ 16 ∧ x.checkErrors ≤ 65535 ∧ x.abortedSeen ≤ 65535 ∧ x.arbitrationLosses ≤ 65535 ∧
    x.unacknowledged ≤ 65535 ∧ x.bitErrors ≤ 65535

theorem lineSafe_iff {s : State} :
    LineSafe s ↔ SlcSafe s.slc ∧ ((∀ im, s.configured ≠ .running im) → s.slc.tx = .on ∧ s.slc.slot = .empty) := by
  unfold LineSafe
  rw [sending_iff]
  constructor
  · rintro ⟨h1, h2, h3, h4, h5, h6, h7, h8, h9, h10, h11, h12⟩
    exact ⟨⟨h1, fun f e => h2 ⟨f, e⟩, h3, h4, h5, h6, h7, h8, h9, h10, h11⟩, h12⟩
  · rintro ⟨⟨h1, h2, h3, h4, h5, h6, h7, h8, h9, h10, h11⟩, h12⟩
    exact ⟨h1, fun ⟨f, e⟩ => h2 f e, h3, h4, h5, h6, h7, h8, h9, h10, h11, h12⟩

theorem LineSafe.slc {s : State} (h : LineSafe s) : SlcSafe s.slc := (lineSafe_iff.mp h).1

theorem LineSafe.running {im : Image} {s : State} (r : s.configured = .running im) (h : SlcSafe s.slc) : LineSafe s :=
  lineSafe_iff.mpr ⟨h, fun n => absurd r (n im)⟩

theorem LineSafe.not_running {s t : State} (h : LineSafe s) (n : ∀ im, s.configured ≠ .running im) (slc : t.slc = s.slc) :
    LineSafe t := by
  rw [lineSafe_iff] at h ⊢
  rw [slc]
  exact ⟨h.1, fun _ => h.2 n⟩

/-- The receiver, the finding of idle, what is driven and the LEAVE wait are no part of the order. -/
theorem SlcSafe.congr {x y : Slc} (h : SlcSafe x) (tx : y.tx = x.tx) (slot : y.slot = x.slot) (owed : y.tickOwed = x.tickOwed)
    (rest : y.restTimer = x.restTimer) (run : y.bitErrorRun = x.bitErrorRun)
    (counts : y.checkErrors ≤ 65535 ∧ y.abortedSeen ≤ 65535 ∧ y.arbitrationLosses ≤ 65535 ∧ y.unacknowledged ≤ 65535 ∧
      y.bitErrors ≤ 65535) : SlcSafe y :=
  ⟨by rw [tx, slot]; exact h.barred, by rw [tx, slot]; exact h.on, by rw [owed, slot]; exact h.owed, by rw [tx, rest]; exact h.rest,
    by rw [tx, run]; exact h.run, by rw [run]; exact ⟨h.counts.1, counts⟩⟩

theorem lineSafe_reset {s : State} (idle : Bool) (drive : List Bool)
    (h : s.slc = { Slc.reset with lineIdle := idle, drive := drive }) : LineSafe s := by
  have reset : SlcSafe Slc.reset :=
    ⟨nofun, nofun, nofun, ⟨nofun, nofun⟩, fun _ => (by decide : 0 < 16), by decide⟩
  rw [lineSafe_iff, h]
  exact ⟨reset.congr rfl rfl rfl rfl rfl reset.counts.2, fun _ => ⟨rfl, rfl⟩⟩

theorem lineSafe_reinitialise (s : State) : LineSafe (reinitialise s) := lineSafe_reset s.slc.lineIdle [] rfl

/-- An update of the slot keeps the order. -/
theorem SlcSafe.moved {im : Image} {s t : State} (h : SlcSafe s.slc) (slc : t.slc = { s.slc with slot := t.slc.slot })
    (moved : SlotMoved im s t) : SlcSafe t.slc := by
  rcases moved.slot with same | ⟨empty, can, owes⟩
  · have : t.slc = s.slc := by rw [slc, same]
    rw [this]; exact h
  · rw [slc, owes]
    have quiet : s.slc.tickOwed ≠ true := fun n => by
      obtain ⟨f, e⟩ := h.owed n
      rw [empty] at e; cases e
    have announcing : s.slc.tx ≠ .barred := by
      simp only [Machine.announces, Bool.and_eq_true, bne_iff_ne] at can
      exact can.2
    exact ⟨fun n => absurd n announcing, fun f e => absurd e (sending_slotAtUpdate im s f), fun n => absurd n quiet, h.rest, h.run,
      h.counts⟩

theorem Moves.lineSafe {im : Image} {s t : State} (r : s.configured = .running im) (h : SlcSafe s.slc) (m : Moves im s t) :
    LineSafe t := .running (m.configured.trans r) (h.moved m.slc m.toSlotMoved)

theorem Elsewhere.lineSafe {s t : State} (h : LineSafe s) (m : Elsewhere s t) : LineSafe t := by
  by_cases running : ∃ im, s.configured = .running im
  · obtain ⟨im, r⟩ := running
    exact (m.1 im r).1.lineSafe r h.slc
  · have n := fun im r => running ⟨im, r⟩
    exact h.not_running n (m.2 n).slc

theorem lineSafe_finishRoster {im : Image} {before s : State} (r : s.configured = .running im) (h : SlcSafe s.slc) :
    LineSafe (finishRoster im before s) := by
  obtain ⟨slc, configured, -⟩ := beside_evaluateMode_slc im s
  exact (moves_finishRoster im before s).lineSafe (configured.trans r) (slc ▸ h)

theorem lineSafe_leaveCheck {s : State} (h : LineSafe s) : LineSafe (leaveCheck s) := by
  rcases leaveCheck_cases s with ⟨e, -⟩ | e <;> rw [e]
  · exact lineSafe_reinitialise s
  · exact h

theorem retrySlot_due (s : State) (f : OwnFrame) : ∃ kind, retrySlot s f = .due kind := by
  unfold retrySlot; split <;> exact ⟨_, rfl⟩

-- The start-up's rows (R203, R204, R208, R210).

theorem beside_firstWord (im : Image) (o : Outlet) (s : State) : Beside s (firstWord im o s) := by
  unfold firstWord; split
  · exact beside_modOut ..
  · exact .refl s

/-- The entry to RUNNING (R208): the SLC and the PRS start, and then the slot and the share follow. -/
theorem enterRunning_moves (im : Image) (s : State) :
    ∃ u, u.configured = .running im ∧ u.prs = Prs.start im ∧
      u.slc = { s.slc with slot := .due .announce, shareTick := s.timerIn im.sharePeriod } ∧ Moves im u (enterRunning im s) := by
  have words := fun u : State => (beside_firstWord im .a u).trans (beside_firstWord im .b _)
  have computed := fun u : State => (shared_computation im u).moves (noted_computation im u).toSlotMoved
  unfold enterRunning
  dsimp only
  split
  · exact ⟨_, rfl, rfl, rfl, (computed _).trans ((words _).moves im)⟩
  · exact ⟨_, rfl, rfl, rfl, ((beside_modOut _ .b _).moves im).trans ((computed _).trans ((words _).moves im))⟩

/-- The SLC and the PRS at their reset values, outside RUNNING (R21, R44): what a reset and a reinitialisation leave. -/
def LineReset (t : State) : Prop :=
  (∀ im, t.configured ≠ .running im) ∧ t.prs = .reset ∧ ∃ idle drive, t.slc = { Slc.reset with lineIdle := idle, drive := drive }

theorem lineReset_reinitialise (s : State) : LineReset (reinitialise s) := ⟨nofun, rfl, _, _, rfl⟩

/-- The part enters RUNNING on a valid image: the SLC and the PRS start, and then the slot and the share follow (R208). -/
def LineStarted (s t : State) : Prop :=
  ∃ im u, itemsInRange im = true ∧ relationsHold im = true ∧ u.configured = .running im ∧ u.prs = Prs.start im ∧
    u.slc = { s.slc with slot := .due .announce, shareTick := s.timerIn im.sharePeriod } ∧ Moves im u t

theorem validImage_ok {l : List Byte} {im : Image} (h : validImage l = some im) : itemsInRange im = true ∧ relationsHold im = true := by
  unfold validImage at h
  split at h
  · rename_i k
    cases h
    simp only [Bool.and_eq_true] at k
    exact ⟨k.1.2, k.2⟩
  · cases h

theorem lineStarted_enterRunning {l : List Byte} {im : Image} (h : validImage l = some im) (s : State) :
    LineStarted s (enterRunning im s) := by
  obtain ⟨items, relations⟩ := validImage_ok h
  obtain ⟨u, running, prs, slc, moves⟩ := enterRunning_moves im s
  exact ⟨im, u, items, relations, running, prs, slc, moves⟩

/-- CONFIGURE only answers, but for a valid image to an UNCONFIGURED part (R191, R209). -/
theorem exec_configure {image : Vector Byte 64} {s t : State} (e : exec (.configure image) s = .next t) :
    Quiet s t ∨ s.configured = .unconfigured ∧
      ∃ im, validImage image.toList = some im ∧ t = respond .ok 4 [] (enterRunning im (finishCaptured (.configure image) s)) := by
  have kept := quiet_finishCaptured (.configure image) s
  simp only [exec, execConfigure, hostAny] at e
  split at e <;> rename_i state
  · cases e; exact .inl (quiet_answerPending s)
  · simp only [kept.1.configured, state] at e
    split at e <;> rename_i valid
    · cases e; exact .inl (kept.trans (quiet_refuse _ _ _))
    · cases e; exact .inr ⟨state, _, valid, rfl⟩
  · simp only [kept.1.configured, state] at e
    split at e <;> cases e
    · exact .inl (quiet_answerPending s)
    · exact .inl (kept.trans (quiet_refuse _ _ _))

/-- RESTART only answers, but for the one that a serving part accepts (R196, R210). -/
theorem exec_restart {s t : State} (e : exec .restart s = .next t) :
    Quiet s t ∨ ∃ im u, Serves im s ∧ Quiet s u ∧ t = beginLeave u := by
  have kept := quiet_finishCaptured .restart s
  simp only [exec, execRestart, hostRunning] at e
  split at e <;> rename_i state
  · cases e; exact .inl (quiet_answerPending s)
  · cases e; exact .inl (kept.trans (quiet_refuse _ _ _))
  · split at e
    · cases e; exact .inl (quiet_answerPending s)
    · rename_i im wait
      split at e <;> cases e
      · exact .inr ⟨im, _, ⟨state, Bool.eq_false_iff.mpr wait⟩, kept.trans (quiet_respond _ _ _ _), rfl⟩
      · exact .inl (kept.trans (quiet_refuse _ _ _))

/-- The rows of the start-up. -/
def startsUp : Instr → Bool
  | .powerOn | .resetLineAsserted | .resetLineReleased | .configurationReadEnd _ | .passTimeout | .configure _ => true
  | _ => false

/-- What a row of the start-up does to the SLC and the PRS: a reset, nothing, or the entry to RUNNING (R203 to R209). -/
theorem exec_startsUp {c : Instr} (k : startsUp c = true) {s t : State} (e : exec c s = .next t) :
    LineReset t ∨ Quiet s t ∨
      (∀ im, s.configured ≠ .running im) ∧
        ((∀ im, t.configured ≠ .running im) ∧ t.slc = s.slc ∧ t.prs = s.prs ∨ LineStarted s t) := by
  cases c with
  | powerOn =>
    cases e
    split <;> exact .inl ⟨nofun, rfl, false, [], rfl⟩
  | resetLineAsserted =>
    cases e
    exact .inl ⟨nofun, rfl, false, [], rfl⟩
  | resetLineReleased =>
    simp only [exec, execResetLineReleased] at e
    split at e <;> cases e
    · exact .inr (.inr ⟨by simp [*], .inl ⟨nofun, rfl, rfl⟩⟩)
    all_goals exact .inr (.inl ⟨⟨rfl, rfl, rfl, rfl⟩, fun _ => rfl⟩)
  | configurationReadEnd result =>
    simp only [exec, execConfigurationReadEnd] at e
    split at e
    · have n : ∀ im, s.configured ≠ .running im := by simp [*]
      split at e
      · cases e; exact .inr (.inr ⟨n, .inl ⟨nofun, rfl, rfl⟩⟩)
      · split at e <;> cases e
        · rename_i valid
          unfold readImage at valid
          split at valid
          · cases valid
          · obtain ⟨l, -, valid⟩ := Option.bind_eq_some_iff.mp valid
            exact .inr (.inr ⟨n, .inr (lineStarted_enterRunning valid s)⟩)
        · exact .inr (.inr ⟨n, .inl ⟨nofun, rfl, rfl⟩⟩)
    all_goals cases e; exact .inr (.inl (.refl s))
  | passTimeout =>
    simp only [exec, execPassTimeout] at e
    split at e <;> cases e
    · exact .inr (.inr ⟨by simp [*], .inl ⟨nofun, rfl, rfl⟩⟩)
    all_goals exact .inr (.inl (.refl s))
  | configure image =>
    rcases exec_configure e with quiet | ⟨state, im, valid, rfl⟩
    · exact .inr (.inl quiet)
    · obtain ⟨im, u, items, relations, running, prs, slc, moves⟩ :=
        lineStarted_enterRunning valid (finishCaptured (.configure image) s)
      have kept := quiet_finishCaptured (.configure image) s
      refine .inr (.inr ⟨by simp [state], .inr ⟨im, u, items, relations, running, prs, ?_, moves.trans ((quiet_respond _ _ _ _).1.moves im)⟩⟩)
      rw [slc, kept.1.slc, State.timerIn, kept.1.now]; rfl
  | _ => cases k

-- A received frame (R15 to R18) and the tick at the PRS (R42).

/-- The judgement of a received frame: nothing, a discarded frame, one with the own id, or a delivery. -/
theorem judgeFrame_cases (im : Image) (bytes : List Byte) (mark malformed : Bool) (deliver : State → State) (s : State) :
    judgeFrame im bytes mark malformed deliver s = s ∨
      (receives s = true ∧
        (judgeFrame im bytes mark malformed deliver s = discardFrame s ∨
          judgeFrame im bytes mark malformed deliver s = conflictFrame im s ∨
          (badFrame bytes mark malformed = false ∧ frameId bytes ≠ im.stationId ∧
            judgeFrame im bytes mark malformed deliver s = deliver (acceptFrame s)))) := by
  unfold judgeFrame
  split
  · refine .inr ⟨‹_›, ?_⟩
    split
    · exact .inl rfl
    split
    · exact .inr (.inl rfl)
    · exact .inr (.inr ⟨Bool.eq_false_iff.mpr ‹_›, ‹_›, rfl⟩)
  · exact .inl rfl

/-- The PRS alone, and flags that stay set. -/
def RosterOnly (s t : State) : Prop := t = { s with prs := t.prs, hpt := { s.hpt with flags := t.hpt.flags } } ∧ FlagsKept s t

theorem RosterOnly.trans {s t u : State} (h : RosterOnly s t) (k : RosterOnly t u) : RosterOnly s u :=
  ⟨by rw [k.1, h.1], h.2.trans k.2⟩

theorem RosterOnly.slc {s t : State} (h : RosterOnly s t) : t.slc = s.slc := by rw [h.1]
theorem RosterOnly.configured {s t : State} (h : RosterOnly s t) : t.configured = s.configured := by rw [h.1]
theorem RosterOnly.now {s t : State} (h : RosterOnly s t) : t.now = s.now := by rw [h.1]

theorem rosterOnly_prs (s : State) (x : Prs) : RosterOnly s { s with prs := x } := ⟨rfl, .refl s⟩

theorem rosterOnly_evaluateMode (im : Image) (s : State) : RosterOnly s (evaluateMode im s) := by
  obtain ⟨-, flags, keeps⟩ := evaluateMode_spec im s
  exact ⟨by rw [keeps], flags⟩

theorem rosterOnly_noteLimit (im : Image) (limit : Nat) (s : State) : RosterOnly s (noteLimit im limit s) := by
  unfold noteLimit; split
  · exact (rosterOnly_prs s _).trans ⟨rfl, flagsKept_raise _ _⟩
  · exact rosterOnly_prs s _

theorem rosterOnly_noteOver (im : Image) (before : Nat) (s : State) : RosterOnly s (noteOver im before s) := by
  unfold noteOver; split
  · exact ⟨rfl, flagsKept_raise _ _⟩
  · exact rosterOnly_prs s _

theorem rosterOnly_noteUnheard (im : Image) (s : State) : RosterOnly s (noteUnheard im s) := by
  unfold noteUnheard; split <;> exact rosterOnly_prs s _

theorem rosterOnly_tickUnheard (im : Image) (s : State) : RosterOnly s (tickUnheard im s) := by
  unfold tickUnheard; split
  · split <;> exact rosterOnly_prs s _
  · exact rosterOnly_prs s _

/-- What an accepted ANNOUNCE makes of the PRS, before the mode is evaluated (R23, R24, R30 to R37). -/
def announceHeard (im : Image) (id : Nat) (sequence : Byte) (c : Announced) (s : State) : State :=
  let entered := refreshEffective im
    (notePeerFrame { s with prs.roster := putEntry (heardEntry s.prs.roster id sequence c) s.prs.roster })
  noteUnheard im (noteLimit im c.limit
    (if (entryOf s.prs.roster id).isNone then noteOver im s.prs.nEff entered else entered))

/-- What an accepted LEAVE makes of the PRS, before the mode is evaluated (R26, R30 to R37). -/
def leaveHeard (im : Image) (id : Nat) (s : State) : State :=
  noteUnheard im (refreshEffective im (notePeerFrame { s with prs.roster := dropEntry id s.prs.roster }))

/-- What a tick makes of the PRS, before the mode is evaluated (R42). -/
def rosterTicked (im : Image) (s : State) : State :=
  tickUnheard im (tickSilence im (refreshEffective im { s with prs.roster := s.prs.roster.filterMap (ageEntry im) }))

theorem deliverAnnounce_eq (im : Image) (id : Nat) (sequence : Byte) (c : Announced) (s : State) :
    deliverAnnounce im id sequence c s = finishRoster im s (announceHeard im id sequence c s) := rfl

theorem deliverLeave_eq (im : Image) (id : Nat) (s : State) : deliverLeave im id s = finishRoster im s (leaveHeard im id s) := rfl

theorem tickRoster_eq (im : Image) (s : State) :
    tickRoster im s = computation im (noteUpdate im (announced im s) (evaluateMode im (rosterTicked im s))) := rfl

theorem rosterOnly_announceHeard (im : Image) (id : Nat) (sequence : Byte) (c : Announced) (s : State) :
    RosterOnly s (announceHeard im id sequence c s) := by
  unfold announceHeard
  dsimp only
  refine .trans ?_ ((rosterOnly_noteLimit im _ _).trans (rosterOnly_noteUnheard im _))
  split
  · exact .trans (rosterOnly_prs s _) (rosterOnly_noteOver im _ _)
  · exact rosterOnly_prs s _

theorem rosterOnly_leaveHeard (im : Image) (id : Nat) (s : State) : RosterOnly s (leaveHeard im id s) :=
  .trans (rosterOnly_prs s _) (rosterOnly_noteUnheard im _)

theorem rosterOnly_rosterTicked (im : Image) (s : State) : RosterOnly s (rosterTicked im s) :=
  .trans (rosterOnly_prs s _) (rosterOnly_tickUnheard im _)

theorem moves_tickRoster (im : Image) (s : State) : Moves im (evaluateMode im (rosterTicked im s)) (tickRoster im s) :=
  (moves_noteUpdate im _ _).trans ((shared_computation im _).moves (noted_computation im _).toSlotMoved)

-- What keeps the SLC in order, row by row.

theorem LineReset.lineSafe {t : State} (h : LineReset t) : LineSafe t := by
  obtain ⟨-, -, idle, drive, slc⟩ := h
  exact lineSafe_reset idle drive slc

theorem lineSafe_startsUp {c : Instr} (k : startsUp c = true) {s t : State} (h : LineSafe s) (e : exec c s = .next t) : LineSafe t := by
  rcases exec_startsUp k e with reset | quiet | ⟨n, ⟨-, slc, -⟩ | ⟨im, u, -, -, running, -, slc, moves⟩⟩
  · exact reset.lineSafe
  · exact quiet.elsewhere.lineSafe h
  · exact h.not_running n slc
  · obtain ⟨safe, idle⟩ := lineSafe_iff.mp h
    obtain ⟨on, empty⟩ := idle n
    have quiet : s.slc.tickOwed ≠ true := fun n => by
      obtain ⟨f, e⟩ := safe.owed n
      rw [empty] at e; cases e
    refine moves.lineSafe running ?_
    rw [slc]
    exact ⟨fun e => absurd (on.symm.trans e) nofun, nofun, fun e => absurd e quiet, safe.rest, safe.run, safe.counts⟩

theorem lineSafe_beginLeave {im : Image} {s : State} (r : s.configured = .running im) (h : SlcSafe s.slc) : LineSafe (beginLeave s) := by
  unfold beginLeave
  split
  · rename_i on
    refine .running r ⟨fun e => absurd (on.symm.trans e) nofun, fun _ _ => on, fun owes => ?_, h.rest, h.run, h.counts⟩
    obtain ⟨f, e⟩ := h.owed owes
    exact ⟨f, by simp only [e, leaveSlot]⟩
  · exact (lineReset_reinitialise s).lineSafe

theorem lineSafe_restart {s t : State} (h : LineSafe s) (e : exec .restart s = .next t) : LineSafe t := by
  rcases exec_restart e with quiet | ⟨im, u, serves, quiet, rfl⟩
  · exact quiet.elsewhere.lineSafe h
  · exact lineSafe_beginLeave (quiet.1.configured.trans serves.1) (quiet.elsewhere.lineSafe h).slc

theorem lineSafe_whenRunning {s : State} {f : Image → State} (h : LineSafe s)
    (k : ∀ im, s.configured = .running im → LineSafe (f im)) : LineSafe (whenRunning s f) := by
  unfold whenRunning
  split
  · exact k _ ‹_›
  · exact h
  · exact h

theorem lineSafe_leaveTimerExpiry {s : State} (h : LineSafe s) : ∃ t, exec .leaveTimerExpiry s = .next t ∧ LineSafe t := by
  refine ⟨_, rfl, lineSafe_whenRunning h fun im r => ?_⟩
  split
  · exact lineSafe_leaveCheck (.running r (h.slc.congr rfl rfl rfl rfl rfl h.slc.counts.2))
  · exact h

theorem slcSafe_tickCause {s : State} (h : SlcSafe s.slc) : SlcSafe (tickCause s).slc := by
  unfold tickCause
  split
  · rename_i can
    have announcing : s.slc.tx ≠ .barred := by
      simp only [announces, Bool.and_eq_true, bne_iff_ne] at can
      exact can.2
    split <;> rename_i slot
    · exact ⟨h.barred, h.on, fun _ => ⟨_, slot⟩, h.rest, h.run, h.counts⟩
    · exact ⟨fun n => absurd n announcing, nofun, fun n => by obtain ⟨f, e⟩ := h.owed n; simp [slot] at e, h.rest, h.run, h.counts⟩
    · exact ⟨fun n => absurd n announcing, nofun, fun n => by obtain ⟨f, e⟩ := h.owed n; simp [slot] at e, h.rest, h.run, h.counts⟩
    · exact h
  · exact h

theorem lineSafe_sharePeriodTick {s : State} (h : LineSafe s) : ∃ t, exec .sharePeriodTick s = .next t ∧ LineSafe t := by
  refine ⟨_, rfl, lineSafe_whenRunning h fun im r => ?_⟩
  have ticked : SlcSafe (tickCause { s with slc.shareTick := s.timerIn im.sharePeriod }).slc :=
    slcSafe_tickCause (h.slc.congr rfl rfl rfl rfl rfl h.slc.counts.2)
  have running : (tickCause { s with slc.shareTick := s.timerIn im.sharePeriod }).configured = .running im := by
    unfold tickCause; split
    · split <;> exact r
    · exact r
  generalize tickCause { s with slc.shareTick := s.timerIn im.sharePeriod } = u at ticked running
  have only := (rosterOnly_rosterTicked im u).trans (rosterOnly_evaluateMode im _)
  exact (moves_tickRoster im u).lineSafe (only.configured.trans running) (only.slc ▸ ticked)

theorem lineSafe_quarterPeriodMark {s : State} (h : LineSafe s) : ∃ t, exec .quarterPeriodMark s = .next t ∧ LineSafe t := by
  refine ⟨_, rfl, lineSafe_whenRunning h fun im r => ?_⟩
  split <;> rename_i slot
  · refine .running r ⟨fun n => ?_, nofun, fun n => ?_, h.slc.rest, h.slc.run, h.slc.counts⟩
    · simpa [slot] using h.slc.barred n
    · obtain ⟨f, e⟩ := h.slc.owed n; simp [slot] at e
  all_goals exact h

theorem lineSafe_attemptStart {s : State} (h : LineSafe s) : ∃ t, exec .attemptStart s = .next t ∧ LineSafe t := by
  refine ⟨_, rfl, lineSafe_whenRunning h fun im r => ?_⟩
  split
  · split
    · rename_i free
      exact .running r ⟨fun n => absurd (free.1.symm.trans n) nofun, fun _ _ => free.1, fun _ => ⟨_, rfl⟩, h.slc.rest, h.slc.run,
        h.slc.counts⟩
    · exact h
  all_goals exact h

/-- A frame that did not complete leaves the transmitter as it was, with the frame due again (R3, R12). -/
theorem SlcSafe.retry {x y : Slc} (h : SlcSafe x) {frame : OwnFrame} (slot : x.slot = .sending frame) {kind : FrameKind}
    (due : y.slot = .due kind) (owed : y.tickOwed = false) (tx : y.tx = x.tx) (rest : y.restTimer = x.restTimer)
    (run : y.bitErrorRun < 16) (counts : y.checkErrors ≤ 65535 ∧ y.abortedSeen ≤ 65535 ∧ y.arbitrationLosses ≤ 65535 ∧
      y.unacknowledged ≤ 65535 ∧ y.bitErrors ≤ 65535) : SlcSafe y := by
  have on := h.on frame slot
  exact ⟨fun n => absurd (on.symm.trans (tx.symm.trans n)) nofun, fun f e => absurd (due.symm.trans e) nofun,
    fun n => absurd (owed.symm.trans n) nofun, by rw [tx, rest]; exact h.rest, fun _ => run, Nat.le_of_lt run, counts⟩

theorem lineSafe_arbitrationLoss {s : State} (h : LineSafe s) : ∃ t, exec .arbitrationLoss s = .next t ∧ LineSafe t := by
  refine ⟨_, rfl, lineSafe_whenRunning h fun im r => ?_⟩
  split <;> rename_i slot
  · rename_i frame
    obtain ⟨kind, due⟩ := retrySlot_due s frame
    obtain ⟨-, c1, c2, c3, c4, c5⟩ := h.slc.counts
    exact lineSafe_leaveCheck (.running r
      (h.slc.retry slot (kind := kind) due rfl rfl rfl (h.slc.run (h.slc.on _ slot)) ⟨c1, c2, satAdd_le _ _ _, c4, c5⟩))
  all_goals exact h

theorem lineSafe_bitError {s : State} (h : LineSafe s) : ∃ t, exec .bitError s = .next t ∧ LineSafe t := by
  refine ⟨_, rfl, lineSafe_whenRunning h fun im r => ?_⟩
  split <;> rename_i slot
  · rename_i frame
    obtain ⟨kind, due⟩ := retrySlot_due s frame
    obtain ⟨-, c1, c2, c3, c4, c5⟩ := h.slc.counts
    have counts : s.slc.checkErrors ≤ 65535 ∧ s.slc.abortedSeen ≤ 65535 ∧ s.slc.arbitrationLosses ≤ 65535 ∧
        s.slc.unacknowledged ≤ 65535 ∧ satAdd maxCount s.slc.bitErrors 1 ≤ 65535 := ⟨c1, c2, c3, c4, satAdd_le _ _ _⟩
    have driving : ∀ t : State, LineSafe t → LineSafe (drivingAbort t) := fun t k => k
    refine driving _ (lineSafe_leaveCheck ?_)
    split
    · refine lineSafe_finishRoster (s := startRest (abortFrame frame s)) r ?_
      exact ⟨nofun, fun f e => absurd (due.symm.trans e) nofun, nofun, ⟨fun _ => rfl, fun _ => rfl⟩, nofun, satAdd_le _ _ _, counts⟩
    · rename_i short
      refine .running r (h.slc.retry slot (kind := kind) due rfl rfl rfl ?_ counts)
      exact Nat.lt_of_le_of_ne (satAdd_le restCount _ 1) short
  all_goals exact h

theorem lineSafe_restTimerExpiry {s : State} (h : LineSafe s) : ∃ t, exec .restTimerExpiry s = .next t ∧ LineSafe t := by
  refine ⟨_, rfl, lineSafe_whenRunning h fun im r => ?_⟩
  split
  · rename_i rests
    refine lineSafe_finishRoster (s := { s with slc.restTimer := none, slc.tx := .on, slc.bitErrorRun := 0 }) r
      ⟨nofun, fun _ _ => rfl, h.slc.owed, ⟨nofun, nofun⟩, fun _ => (by decide : 0 < 16), Nat.zero_le _, h.slc.counts.2⟩
  · exact h

theorem lineSafe_ownFrameCompletion (acknowledged : Bool) {s : State} (h : LineSafe s) :
    ∃ t, exec (.ownFrameCompletion acknowledged) s = .next t ∧ LineSafe t := by
  refine ⟨_, rfl, lineSafe_whenRunning h fun im r => ?_⟩
  split <;> rename_i slot
  · rename_i sequence content
    have on := h.slc.on _ slot
    obtain ⟨-, c1, c2, c3, c4, c5⟩ := h.slc.counts
    have reported : (reportCompletion im acknowledged (completeFrame s)).configured = .running im ∧
        ∃ n, n ≤ 65535 ∧
          (reportCompletion im acknowledged (completeFrame s)).slc = { (completeFrame s).slc with unacknowledged := n } := by
      unfold reportCompletion
      split
      · have busy : (completeFrame s).slc.slot ≠ .empty := fun n => absurd (slot.symm.trans n) nofun
        exact ⟨(finishRoster_configured im _ _).trans r, s.slc.unacknowledged, c4, finishRoster_slc busy⟩
      · exact ⟨r, _, satAdd_le _ _ _, rfl⟩
    obtain ⟨running, n, bound, slc⟩ := reported
    refine .running running ?_
    unfold completeAnnounce
    generalize reportCompletion im acknowledged (completeFrame s) = u at running slc
    simp only [slc]
    refine ⟨fun n => absurd (on.symm.trans n) nofun, fun f e => ?_, nofun, h.slc.rest, fun _ => (by decide : 0 < 16), Nat.zero_le _,
      c1, c2, c3, bound, c5⟩
    exact on
  · exact (lineReset_reinitialise _).lineSafe
  all_goals exact h

theorem lineSafe_stuffViolation {s : State} (h : LineSafe s) : ∃ t, exec .stuffViolation s = .next t ∧ LineSafe t := by
  refine ⟨_, rfl, lineSafe_whenRunning h fun im r => ?_⟩
  split
  · obtain ⟨-, c1, c2, c3, c4, c5⟩ := h.slc.counts
    exact .running r (h.slc.congr rfl rfl rfl rfl rfl ⟨c1, satAdd_le _ _ _, c3, c4, c5⟩)
  · exact h

theorem lineSafe_conflictFrame {im : Image} {s : State} (r : s.configured = .running im) (h : SlcSafe s.slc)
    (quiet : sending s = false) : LineSafe (conflictFrame im s) := by
  have barred : SlcSafe (barTransmitter s).slc :=
    ⟨fun _ => rfl, nofun, fun n => by obtain ⟨f, e⟩ := h.owed n; exact absurd e (sending_eq_false.mp quiet f), ⟨nofun, nofun⟩, nofun, h.counts⟩
  unfold conflictFrame
  refine lineSafe_leaveCheck ?_
  split
  · exact .running r barred
  · exact lineSafe_finishRoster (s := barTransmitter s) r barred

/-- A received frame keeps the SLC in order, where what it is delivered to does. -/
theorem lineSafe_judgeFrame {im : Image} {bytes : List Byte} {mark malformed : Bool} {deliver : State → State} {s : State}
    (h : LineSafe s) (r : s.configured = .running im)
    (k : ∀ u, u.configured = .running im → SlcSafe u.slc → LineSafe (deliver u)) :
    LineSafe (judgeFrame im bytes mark malformed deliver s) := by
  rcases judgeFrame_cases im bytes mark malformed deliver s with e | ⟨hears, e | e | ⟨-, -, e⟩⟩ <;> rw [e]
  · exact h
  · obtain ⟨-, c1, c2, c3, c4, c5⟩ := h.slc.counts
    exact .running r (h.slc.congr rfl rfl rfl rfl rfl ⟨satAdd_le _ _ _, c2, c3, c4, c5⟩)
  · exact lineSafe_conflictFrame r h.slc (receives_iff.mp hears).1
  · exact k _ r (h.slc.congr rfl rfl rfl rfl rfl h.slc.counts.2)

theorem lineSafe_announceReceived (frame : Vector Byte 21) (mark : Bool) {s : State} (h : LineSafe s) :
    ∃ t, exec (.announceReceived frame mark) s = .next t ∧ LineSafe t := by
  refine ⟨_, rfl, lineSafe_whenRunning h fun im r => ?_⟩
  dsimp only
  split
  · exact lineSafe_judgeFrame h r fun u running safe => .running running safe
  · refine lineSafe_judgeFrame h r fun u running safe => ?_
    have only := rosterOnly_announceHeard im (frameId frame.toList) (frameSequence frame.toList) ‹Announced› u
    rw [deliverAnnounce_eq]
    exact lineSafe_finishRoster (only.configured.trans running) (by rw [only.slc]; exact safe)

theorem lineSafe_leaveReceived (frame : Vector Byte 4) (mark : Bool) {s : State} (h : LineSafe s) :
    ∃ t, exec (.leaveReceived frame mark) s = .next t ∧ LineSafe t := by
  refine ⟨_, rfl, lineSafe_whenRunning h fun im r => lineSafe_judgeFrame h r fun u running safe => ?_⟩
  have only := rosterOnly_leaveHeard im (frameId frame.toList) u
  rw [deliverLeave_eq]
  exact lineSafe_finishRoster (only.configured.trans running) (by rw [only.slc]; exact safe)

theorem lineSafe_lineIdle {s : State} (h : LineSafe s) : ∃ t, exec .lineIdle s = .next t ∧ LineSafe t := by
  refine ⟨_, rfl, ?_⟩
  split
  · exact h
  · obtain ⟨safe, n⟩ := lineSafe_iff.mp h
    exact lineSafe_iff.mpr ⟨safe.congr rfl rfl rfl rfl rfl safe.counts.2, n⟩

theorem lineSafe_frameStartBit {s : State} (h : LineSafe s) : ∃ t, exec .frameStartBit s = .next t ∧ LineSafe t := by
  have idle : LineSafe { s with slc.lineIdle := false } := h
  refine ⟨_, rfl, ?_⟩
  split
  · exact lineSafe_whenRunning idle fun im r => .running r (h.slc.congr rfl rfl rfl rfl rfl h.slc.counts.2)
  · exact h

theorem lineSafe_exec (c : Instr) {s t : State} (h : LineSafe s) (e : exec c s = .next t) : LineSafe t := by
  have of_row : (∃ t, exec c s = .next t ∧ LineSafe t) → LineSafe t := fun ⟨u, eu, safe⟩ => by
    rw [eu] at e; cases e; exact safe
  by_cases k : changesLine c = false
  · obtain ⟨u, eu, elsewhere⟩ := exec_elsewhere c s k
    exact of_row ⟨u, eu, elsewhere.lineSafe h⟩
  by_cases start : startsUp c = true
  · exact lineSafe_startsUp start h e
  cases c with
  | restart => exact lineSafe_restart h e
  | leaveTimerExpiry => exact of_row (lineSafe_leaveTimerExpiry h)
  | sharePeriodTick => exact of_row (lineSafe_sharePeriodTick h)
  | quarterPeriodMark => exact of_row (lineSafe_quarterPeriodMark h)
  | attemptStart => exact of_row (lineSafe_attemptStart h)
  | arbitrationLoss => exact of_row (lineSafe_arbitrationLoss h)
  | bitError => exact of_row (lineSafe_bitError h)
  | restTimerExpiry => exact of_row (lineSafe_restTimerExpiry h)
  | ownFrameCompletion acknowledged => exact of_row (lineSafe_ownFrameCompletion acknowledged h)
  | stuffViolation => exact of_row (lineSafe_stuffViolation h)
  | announceReceived frame mark => exact of_row (lineSafe_announceReceived frame mark h)
  | leaveReceived frame mark => exact of_row (lineSafe_leaveReceived frame mark h)
  | lineIdle => exact of_row (lineSafe_lineIdle h)
  | frameStartBit => exact of_row (lineSafe_frameStartBit h)
  | powerOn | resetLineAsserted | resetLineReleased | configurationReadEnd | passTimeout | configure => exact absurd rfl start
  | _ => exact absurd rfl k

/-- What every command and the passing of 0.1 ms keep, every step keeps: a step changes besides them the queue and the free values alone. -/
theorem step_keeps {P : State → Prop} (exec_keeps : ∀ c s t, P s → exec c s = .next t → P t) (advance_keeps : ∀ s, P s → P (advance s))
    (queue : ∀ s pending draws, P s → P { s with pending := pending, draws := draws }) {s t : State} (h : P s)
    (e : step s = .next t) : P t := by
  unfold step at e
  split at e
  · exact exec_keeps _ _ _ (queue s _ s.draws h) e
  · generalize dueEvents s = due at e
    match due, e with
    | [], e => cases e; exact advance_keeps s h
    | [c], e => exact exec_keeps c s t h e
    | c :: d :: rest, e => exact exec_keeps _ _ _ (queue s s.pending _ h) e

theorem advance_line (s : State) :
    (advance s).slc = s.slc ∧ (advance s).prs = s.prs ∧
      ((advance s).configured = s.configured ∨ (∀ im, s.configured ≠ .running im) ∧ ∀ im, (advance s).configured ≠ .running im) := by
  by_cases running : ∃ im, s.configured = .running im
  · obtain ⟨im, r⟩ := running
    rw [(advance_station r).1]
    exact ⟨rfl, rfl, .inl rfl⟩
  · have n := fun im r => running ⟨im, r⟩
    have aged : ∀ im, ageRead s.configured ≠ .running im := by
      intro im; cases k : s.configured with
      | loading read => cases read <;> simp [ageRead]
      | unconfigured => simp [ageRead]
      | running im => exact absurd k (n im)
    rw [advance_not_running n]
    refine ⟨rfl, rfl, ?_⟩
    dsimp only
    split
    · exact .inr ⟨n, aged⟩
    · exact .inl rfl

/-- Settles O11: row by row, with the rows outside the line at once (`exec_elsewhere`). -/
theorem lineStaysSafe : Obligations.LineStaysSafe := by
  intro s t h e
  refine step_keeps (fun c s t => lineSafe_exec c) (fun s h => ?_) (fun s _ _ h => h) h e
  obtain ⟨slc, -, same | ⟨n, -⟩⟩ := advance_line s
  · rw [lineSafe_iff] at h ⊢
    rw [slc, same]; exact h
  · exact h.not_running n slc

end Sys2Proof.Machine
end

section
/-! SUPPORT. The roster (R22 to R32): its entries by id, their ranges and the effective values, through every row. -/

namespace Sys2Proof.Machine

-- The entry under an id (R22, R26).

theorem entryOf_putEntry_same (x : Entry) (roster : List Entry) : entryOf (putEntry x roster) x.id = some x := by
  induction roster with
  | nil => simp [putEntry, entryOf]
  | cons e es ih =>
    unfold putEntry
    split
    · simp [entryOf]
    split
    · simp [entryOf]
    · rename_i other
      unfold entryOf at ih ⊢
      rw [List.find?_cons_of_neg (by simpa using fun n => other n.symm), ih]

theorem entryOf_putEntry_other (x : Entry) (roster : List Entry) {id : Nat} (h : id ≠ x.id) :
    entryOf (putEntry x roster) id = entryOf roster id := by
  have skip : ¬((fun e : Entry => e.id == id) x) = true := by simpa using fun n => h n.symm
  unfold entryOf
  induction roster with
  | nil => simp [putEntry, skip]
  | cons e es ih =>
    unfold putEntry
    split
    · exact List.find?_cons_of_neg (p := fun e : Entry => e.id == id) skip
    split
    · rename_i same
      have skip' : ¬((fun e : Entry => e.id == id) e) = true := by simpa [← same] using fun n => h n.symm
      rw [List.find?_cons_of_neg (p := fun e : Entry => e.id == id) skip, List.find?_cons_of_neg (p := fun e : Entry => e.id == id) skip']
    · rw [List.find?_cons, List.find?_cons, ih]

theorem entryOf_dropEntry_same (id : Nat) (roster : List Entry) : entryOf (dropEntry id roster) id = none := by
  simp [entryOf, dropEntry]

theorem entryOf_dropEntry_other {id j : Nat} (roster : List Entry) (h : j ≠ id) :
    entryOf (dropEntry id roster) j = entryOf roster j := by
  unfold entryOf dropEntry
  rw [List.find?_filter]
  congr 1
  funext e
  by_cases k : e.id = j
  · simp [k, h]
  · simp [k]

theorem heardEntry_id (roster : List Entry) (id : Nat) (sequence : Byte) (c : Announced) : (heardEntry roster id sequence c).id = id := by
  unfold heardEntry
  split
  · rfl
  · rename_i e h
    have named := List.find?_some h
    exact beq_iff_eq.mp named

theorem mem_putEntry {x e : Entry} {roster : List Entry} (h : e ∈ putEntry x roster) : e = x ∨ e ∈ roster := by
  induction roster with
  | nil => simpa [putEntry] using h
  | cons y ys ih =>
    unfold putEntry at h
    split at h
    · simpa using h
    split at h
    · rcases List.mem_cons.mp h with k | k
      · exact .inl k
      · exact .inr (List.mem_cons_of_mem _ k)
    · rcases List.mem_cons.mp h with rfl | k
      · exact .inr List.mem_cons_self
      · exact (ih k).imp id (List.mem_cons_of_mem _)

/-- Rising order of ids (R22). -/
def Rising (roster : List Entry) : Prop := roster.Pairwise fun e f => e.id < f.id

theorem rising_putEntry {x : Entry} {roster : List Entry} (h : Rising roster) : Rising (putEntry x roster) := by
  unfold Rising at *
  induction roster with
  | nil => simp [putEntry]
  | cons e es ih =>
    obtain ⟨least, rest⟩ := List.pairwise_cons.mp h
    unfold putEntry
    split
    · rename_i below
      exact List.pairwise_cons.mpr ⟨fun f m => (List.mem_cons.mp m).elim (fun k => k ▸ below) fun k => below.trans (least f k), h⟩
    split
    · rename_i same
      exact List.pairwise_cons.mpr ⟨fun f m => same ▸ least f m, rest⟩
    · refine List.pairwise_cons.mpr ⟨fun f m => ?_, ih rest⟩
      rcases mem_putEntry m with rfl | k
      · omega
      · exact least f k

theorem ageEntry_id {im : Image} {e f : Entry} (h : ageEntry im e = some f) : f.id = e.id := by
  unfold ageEntry at h
  dsimp only at h
  split at h
  · cases h
  split at h <;> cases h <;> rfl

theorem rising_aged (im : Image) {roster : List Entry} (h : Rising roster) : Rising (roster.filterMap (ageEntry im)) := by
  unfold Rising at *
  refine List.Pairwise.filterMap _ ?_ h
  intro e f below e' he f' hf
  rw [ageEntry_id he, ageEntry_id hf]
  exact below

-- The ranges of an entry (R18, R22 to R25, R27).

theorem claimOk_receivedClaim (frame : List Byte) (i : Nat) : ClaimOk (receivedClaim frame i) := by
  unfold receivedClaim ClaimOk
  dsimp only
  split
  · exact ⟨Nat.min_le_left _ _, Nat.le_max_left _ _, by simp only [Nat.max_le]; omega⟩
  · exact ⟨Nat.zero_le _, Nat.le_refl _, by decide⟩

theorem claims_received {frame : List Byte} {c : Announced} (h : receivedAnnounce frame = some c) :
    ClaimOk c.claimA ∧ ClaimOk c.claimB := by
  unfold receivedAnnounce at h
  obtain ⟨mode, -, rfl⟩ := Option.map_eq_some_iff.mp h
  exact ⟨claimOk_receivedClaim frame 9, claimOk_receivedClaim frame 12⟩

/-- The counts of R206 and R207 that an entry's life rests on. -/
theorem counts_of_valid {im : Image} (items : itemsInRange im = true) (relations : relationsHold im = true) :
    1 ≤ im.nSite ∧ 2 ≤ im.staleCount ∧ im.staleCount < im.lapseCount := by
  simp only [itemsInRange, relationsHold, inRange, Bool.and_eq_true, decide_eq_true_eq] at items relations
  omega

/-- A heard entry is FRESH and of age 0, within its ranges (R23 to R25). -/
theorem entryOk_heardEntry {im : Image} (items : itemsInRange im = true) (relations : relationsHold im = true) {roster : List Entry}
    {id : Nat} {c : Announced} (sequence : Byte) (low : 1 ≤ id) (high : id ≤ 31) (peer : id ≠ im.stationId)
    (a : ClaimOk c.claimA) (b : ClaimOk c.claimB) : EntryOk im (heardEntry roster id sequence c) := by
  obtain ⟨-, stale, lapse⟩ := counts_of_valid items relations
  have named := heardEntry_id roster id sequence c
  unfold EntryOk
  rw [named]
  unfold heardEntry
  split
  · exact ⟨low, high, peer, (by omega : 0 < im.lapseCount), iff_of_true rfl (by omega : 0 < im.staleCount), (by decide : 1 ≤ 15),
      iff_of_true rfl (Nat.le_refl 1), Nat.zero_le _, a, b⟩
  · rename_i e _
    have run : 1 ≤ (if e.fresh then satAdd 15 e.freshRun 1 else 1) ∧ (if e.fresh then satAdd 15 e.freshRun 1 else 1) ≤ 15 := by
      unfold satAdd; split <;> omega
    exact ⟨low, high, peer, (by omega : 0 < im.lapseCount), iff_of_true rfl (by omega : 0 < im.staleCount), run.2,
      iff_of_true rfl run.1, satAdd_le _ _ _, a, b⟩

/-- Ageing keeps an entry within its ranges, or removes it (R27). -/
theorem entryOk_ageEntry {im : Image} {e f : Entry} (h : EntryOk im e) (k : ageEntry im e = some f) : EntryOk im f := by
  obtain ⟨low, high, peer, age, fresh, run, runs, missed, a, b⟩ := h
  unfold ageEntry at k
  dsimp only at k
  split at k
  · cases k
  · rename_i live
    split at k <;> cases k
    · rename_i turns
      simp only [Bool.and_eq_true, beq_iff_eq] at turns
      exact ⟨low, high, peer, (by omega : e.age + 1 < im.lapseCount), iff_of_false nofun (by omega : ¬e.age + 1 < im.staleCount),
        Nat.zero_le _, iff_of_false nofun (by decide : ¬1 ≤ 0), missed, a, b⟩
    · rename_i stays
      simp only [Bool.and_eq_true, beq_iff_eq, not_and] at stays
      refine ⟨low, high, peer, (by omega : e.age + 1 < im.lapseCount), ⟨fun n => ?_, fun n => fresh.mpr ?_⟩, run, runs, missed, a, b⟩
      · have := fresh.mp n; have := stays n; show e.age + 1 < _; omega
      · change e.age + 1 < _ at n; omega

-- The roster with its effective values.

/-- What `RosterSafe` says of the roster and the effective values in RUNNING. -/
structure RosterOk (im : Image) (x : Prs) : Prop where
  items : itemsInRange im = true
  relations : relationsHold im = true
  rising : Rising x.roster
  entries : ∀ e ∈ x.roster, EntryOk im e
  nEff : x.nEff = max im.nSite (1 + x.roster.length)
  unseen : x.unseen = x.nEff - 1 - x.roster.length
  lEff : x.lEff ≤ im.limit ∧ (∀ e ∈ x.roster, e.fresh = true → x.lEff ≤ e.limit) ∧
    (x.lEff = im.limit ∨ ∃ e ∈ x.roster, e.fresh = true ∧ x.lEff = e.limit)

theorem rosterSafe_not_running {s : State} (n : ∀ im, s.configured ≠ .running im) :
    RosterSafe s ↔ s.prs.roster = [] ∧ s.prs.lEff = 0 ∧ s.prs.mode = .isolated := by
  unfold RosterSafe
  split
  · exact absurd ‹_› (n _)
  · rfl
  · rfl

theorem rosterSafe_running {im : Image} {s : State} (r : s.configured = .running im) :
    RosterSafe s ↔ RosterOk im s.prs ∧ (s.prs.nEff = 1 → s.prs.mode = .joined) := by
  unfold RosterSafe
  rw [r]
  constructor
  · rintro ⟨items, relations, rising, entries, nEff, unseen, l1, l2, l3, mode⟩
    exact ⟨⟨items, relations, rising, entries, nEff, unseen, l1, l2, l3⟩, mode⟩
  · rintro ⟨⟨items, relations, rising, entries, nEff, unseen, l1, l2, l3⟩, mode⟩
    exact ⟨items, relations, rising, entries, nEff, unseen, l1, l2, l3, mode⟩

theorem RosterSafe.ok {im : Image} {s : State} (h : RosterSafe s) (r : s.configured = .running im) : RosterOk im s.prs :=
  ((rosterSafe_running r).mp h).1

/-- The mode state, the silence counts and the mismatch list are no part of it. -/
theorem RosterOk.congr {im : Image} {x y : Prs} (h : RosterOk im x) (roster : y.roster = x.roster) (nEff : y.nEff = x.nEff)
    (unseen : y.unseen = x.unseen) (lEff : y.lEff = x.lEff) : RosterOk im y :=
  ⟨h.items, h.relations, roster ▸ h.rising, roster ▸ h.entries, by rw [nEff, roster]; exact h.nEff,
    by rw [unseen, nEff, roster]; exact h.unseen, by rw [lEff, roster]; exact h.lEff⟩

/-- The effective values worked anew are those of the roster (R30 to R32). -/
theorem rosterOk_refreshEffective {im : Image} (items : itemsInRange im = true) (relations : relationsHold im = true) {s : State}
    (rising : Rising s.prs.roster) (entries : ∀ e ∈ s.prs.roster, EntryOk im e) : RosterOk im (refreshEffective im s).prs :=
  ⟨items, relations, rising, entries, rfl, rfl, effectiveLimit_spec im s.prs.roster⟩

theorem rosterSafe_congr {s t : State} (h : RosterSafe s) (prs : t.prs = s.prs)
    (configured : t.configured = s.configured ∨ (∀ im, s.configured ≠ .running im) ∧ ∀ im, t.configured ≠ .running im) :
    RosterSafe t := by
  rcases configured with same | ⟨n, n'⟩
  · unfold RosterSafe at *
    rw [same, prs]; exact h
  · rw [rosterSafe_not_running n'] 
    rw [rosterSafe_not_running n] at h
    rw [prs]; exact h

theorem LineReset.rosterSafe {t : State} (h : LineReset t) : RosterSafe t := by
  rw [rosterSafe_not_running h.1, h.2.1]
  exact ⟨rfl, rfl, rfl⟩

/-- The evaluation of the mode after a change of the roster: alone, a station is JOINED (R39). -/
theorem rosterSafe_evaluateMode {im : Image} {s t : State} (r : t.configured = .running im) (ok : RosterOk im s.prs)
    (prs : t.prs = (evaluateMode im s).prs) : RosterSafe t := by
  obtain ⟨mode, -, keeps⟩ := evaluateMode_spec im s
  rw [rosterSafe_running r, prs]
  refine ⟨?_, fun alone => ?_⟩
  · rw [keeps]; exact ok.congr rfl rfl rfl rfl
  · have one : s.prs.nEff = 1 := by rw [keeps] at alone; exact alone
    rw [mode, evaluatedMode, if_pos one]

theorem rosterSafe_finishRoster {im : Image} {before s : State} (r : s.configured = .running im) (ok : RosterOk im s.prs) :
    RosterSafe (finishRoster im before s) :=
  rosterSafe_evaluateMode ((finishRoster_configured im before s).trans r) ok (moves_finishRoster im before s).prs

theorem rosterSafe_leaveCheck {s : State} (h : RosterSafe s) : RosterSafe (leaveCheck s) := by
  rcases leaveCheck_cases s with ⟨e, -⟩ | e <;> rw [e]
  · exact (lineReset_reinitialise s).rosterSafe
  · exact h

theorem rosterSafe_whenRunning {s : State} {f : Image → State} (h : RosterSafe s)
    (k : ∀ im, s.configured = .running im → RosterSafe (f im)) : RosterSafe (whenRunning s f) := by
  unfold whenRunning
  split
  · exact k _ ‹_›
  · exact h
  · exact h

-- What the rows of the roster make of it.

theorem noteLimit_prs (im : Image) (limit : Nat) (s : State) :
    (noteLimit im limit s).prs =
      { s.prs with
        mismatches :=
          if limit ≠ im.limit ∧ limit ∉ s.prs.mismatches then listMismatch s.prs.mismatches limit else s.prs.mismatches } := by
  unfold noteLimit; split <;> rfl

theorem noteOver_prs (im : Image) (before : Nat) (s : State) : (noteOver im before s).prs = s.prs := by
  unfold noteOver; split <;> rfl

theorem noteUnheard_prs (im : Image) (s : State) :
    (noteUnheard im s).prs = { s.prs with unheard := if unheardCondition im s.prs.roster then s.prs.unheard else 0 } := by
  unfold noteUnheard; split <;> rfl

theorem tickUnheard_prs (im : Image) (s : State) :
    (tickUnheard im s).prs =
      { s.prs with
        unheard :=
          if unheardCondition im s.prs.roster then
            if s.prs.mode = .joined then satAdd im.isolationCount s.prs.unheard 1 else s.prs.unheard
          else 0 } := by
  unfold tickUnheard
  split
  · split <;> rfl
  · rfl

/-- The PRS after an accepted ANNOUNCE, before the mode is evaluated (R23, R24, R30 to R37). -/
theorem announceHeard_prs (im : Image) (id : Nat) (sequence : Byte) (c : Announced) (s : State) :
    (announceHeard im id sequence c s).prs =
      let roster := putEntry (heardEntry s.prs.roster id sequence c) s.prs.roster
      { s.prs with
        roster := roster, nEff := effectiveCount im roster, unseen := effectiveCount im roster - 1 - roster.length
        lEff := effectiveLimit im roster, peerSilence := 0
        mismatches := if c.limit ≠ im.limit ∧ c.limit ∉ s.prs.mismatches then listMismatch s.prs.mismatches c.limit else s.prs.mismatches
        heardSinceEntry := s.prs.heardSinceEntry || s.prs.mode == .isolated
        unheard := if unheardCondition im roster then s.prs.unheard else 0 } := by
  have noted : ∀ u, (noteUnheard im (noteLimit im c.limit u)).prs =
      { u.prs with
        mismatches := if c.limit ≠ im.limit ∧ c.limit ∉ u.prs.mismatches then listMismatch u.prs.mismatches c.limit else u.prs.mismatches
        unheard := if unheardCondition im u.prs.roster then u.prs.unheard else 0 } :=
    fun u => by rw [noteUnheard_prs, noteLimit_prs]
  unfold announceHeard
  rw [noted]
  split
  · rw [noteOver_prs]; rfl
  · rfl

/-- The PRS after an accepted LEAVE, before the mode is evaluated (R26, R30 to R37). -/
theorem leaveHeard_prs (im : Image) (id : Nat) (s : State) :
    (leaveHeard im id s).prs =
      let roster := dropEntry id s.prs.roster
      { s.prs with
        roster := roster, nEff := effectiveCount im roster, unseen := effectiveCount im roster - 1 - roster.length
        lEff := effectiveLimit im roster, peerSilence := 0
        heardSinceEntry := s.prs.heardSinceEntry || s.prs.mode == .isolated
        unheard := if unheardCondition im roster then s.prs.unheard else 0 } := by
  rw [leaveHeard, noteUnheard_prs]; rfl

/-- The PRS after a tick, before the mode is evaluated (R42). -/
theorem rosterTicked_prs (im : Image) (s : State) :
    (rosterTicked im s).prs =
      let roster := s.prs.roster.filterMap (ageEntry im)
      { s.prs with
        roster := roster, nEff := effectiveCount im roster, unseen := effectiveCount im roster - 1 - roster.length
        lEff := effectiveLimit im roster
        peerSilence := satAdd im.isolationCount s.prs.peerSilence 1, ackSilence := satAdd im.isolationCount s.prs.ackSilence 1
        unheard :=
          if unheardCondition im roster then
            if s.prs.mode = .joined then satAdd im.isolationCount s.prs.unheard 1 else s.prs.unheard
          else 0 } := by
  rw [rosterTicked, tickUnheard_prs]; rfl

theorem rosterOk_announceHeard {im : Image} {s : State} (ok : RosterOk im s.prs) {id : Nat} {c : Announced} (sequence : Byte)
    (low : 1 ≤ id) (high : id ≤ 31) (peer : id ≠ im.stationId) (a : ClaimOk c.claimA) (b : ClaimOk c.claimB) :
    RosterOk im (announceHeard im id sequence c s).prs := by
  rw [announceHeard_prs]
  refine ⟨ok.items, ok.relations, rising_putEntry ok.rising, fun e m => ?_, rfl, rfl, effectiveLimit_spec im _⟩
  rcases mem_putEntry m with rfl | old
  · exact entryOk_heardEntry ok.items ok.relations sequence low high peer a b
  · exact ok.entries e old

theorem rosterOk_leaveHeard {im : Image} {s : State} (ok : RosterOk im s.prs) (id : Nat) : RosterOk im (leaveHeard im id s).prs := by
  rw [leaveHeard_prs]
  exact ⟨ok.items, ok.relations, ok.rising.filter _, fun e m => ok.entries e (List.mem_of_mem_filter m), rfl, rfl,
    effectiveLimit_spec im _⟩

theorem rosterOk_rosterTicked {im : Image} {s : State} (ok : RosterOk im s.prs) : RosterOk im (rosterTicked im s).prs := by
  rw [rosterTicked_prs]
  refine ⟨ok.items, ok.relations, rising_aged im ok.rising, fun e m => ?_, rfl, rfl, effectiveLimit_spec im _⟩
  obtain ⟨f, old, aged⟩ := List.mem_filterMap.mp m
  exact entryOk_ageEntry (ok.entries f old) aged

-- The rows.

/-- An accepted frame has an id of 1 to 31 (R3, R15). -/
theorem frameId_accepted {bytes : List Byte} {mark malformed : Bool} (h : badFrame bytes mark malformed = false) :
    1 ≤ frameId bytes ∧ frameId bytes ≤ 31 := by
  simp only [badFrame, Bool.or_eq_false_iff, beq_eq_false_iff_ne] at h
  have below : frameId bytes < 32 := Nat.mod_lt _ (by decide)
  omega

theorem rosterSafe_judgeFrame {im : Image} {bytes : List Byte} {mark malformed : Bool} {deliver : State → State} {s : State}
    (h : RosterSafe s) (r : s.configured = .running im)
    (k : ∀ u, u.configured = .running im → RosterOk im u.prs → 1 ≤ frameId bytes → frameId bytes ≤ 31 →
      frameId bytes ≠ im.stationId → u.prs = s.prs → RosterSafe (deliver u)) :
    RosterSafe (judgeFrame im bytes mark malformed deliver s) := by
  rcases judgeFrame_cases im bytes mark malformed deliver s with e | ⟨-, e | e | ⟨good, peer, e⟩⟩ <;> rw [e]
  · exact h
  · exact h
  · unfold conflictFrame
    refine rosterSafe_leaveCheck ?_
    split
    · exact h
    · exact rosterSafe_finishRoster (s := barTransmitter s) r (h.ok r)
  · obtain ⟨low, high⟩ := frameId_accepted good
    exact k _ r (h.ok r) low high peer rfl

theorem Elsewhere.rosterSafe {s t : State} (h : RosterSafe s) (m : Elsewhere s t) : RosterSafe t := by
  by_cases running : ∃ im, s.configured = .running im
  · obtain ⟨im, r⟩ := running
    exact rosterSafe_congr h (m.1 im r).1.prs (.inl (m.1 im r).1.configured)
  · have beside := m.2 fun im r => running ⟨im, r⟩
    exact rosterSafe_congr h beside.prs (.inl beside.configured)

theorem rosterSafe_startsUp {c : Instr} (k : startsUp c = true) {s t : State} (h : RosterSafe s) (e : exec c s = .next t) :
    RosterSafe t := by
  rcases exec_startsUp k e with reset | quiet | ⟨n, ⟨n', -, prs⟩ | ⟨im, u, items, relations, running, prs, -, moves⟩⟩
  · exact reset.rosterSafe
  · exact quiet.elsewhere.rosterSafe h
  · exact rosterSafe_congr h prs (.inr ⟨n, n'⟩)
  · obtain ⟨site, -, -⟩ := counts_of_valid items relations
    rw [rosterSafe_running (moves.configured.trans running), moves.prs, prs]
    refine ⟨⟨items, relations, List.Pairwise.nil, nofun, ?_, rfl, Nat.le_refl _, nofun, .inl rfl⟩, fun alone => ?_⟩
    · exact (Nat.max_eq_left site).symm
    · exact if_pos alone

theorem rosterSafe_restart {s t : State} (h : RosterSafe s) (e : exec .restart s = .next t) : RosterSafe t := by
  rcases exec_restart e with quiet | ⟨im, u, -, quiet, rfl⟩
  · exact quiet.elsewhere.rosterSafe h
  · unfold beginLeave
    split
    · exact (quiet.elsewhere.rosterSafe h : RosterSafe u)
    · exact (lineReset_reinitialise u).rosterSafe

theorem rosterSafe_sharePeriodTick {s : State} (h : RosterSafe s) : ∃ t, exec .sharePeriodTick s = .next t ∧ RosterSafe t := by
  refine ⟨_, rfl, rosterSafe_whenRunning h fun im r => ?_⟩
  have caused : ∀ u : State, u.configured = .running im → RosterOk im u.prs →
      (tickCause u).configured = .running im ∧ RosterOk im (tickCause u).prs := by
    intro u running ok
    unfold tickCause
    split
    · split <;> exact ⟨running, ok⟩
    · exact ⟨running, ok⟩
  obtain ⟨running, ok⟩ := caused { s with slc.shareTick := s.timerIn im.sharePeriod } r (h.ok r)
  have moves := moves_tickRoster im (tickCause { s with slc.shareTick := s.timerIn im.sharePeriod })
  have only := (rosterOnly_rosterTicked im (tickCause { s with slc.shareTick := s.timerIn im.sharePeriod })).trans
    (rosterOnly_evaluateMode im _)
  exact rosterSafe_evaluateMode (moves.configured.trans (only.configured.trans running)) (rosterOk_rosterTicked ok) moves.prs

theorem rosterSafe_bitError {s : State} (h : RosterSafe s) : ∃ t, exec .bitError s = .next t ∧ RosterSafe t := by
  refine ⟨_, rfl, rosterSafe_whenRunning h fun im r => ?_⟩
  split
  · have driving : ∀ t : State, RosterSafe t → RosterSafe (drivingAbort t) := fun t k => k
    refine driving _ (rosterSafe_leaveCheck ?_)
    split
    · exact rosterSafe_finishRoster (s := startRest (abortFrame _ s)) r (h.ok r)
    · exact h
  all_goals exact h

theorem rosterSafe_restTimerExpiry {s : State} (h : RosterSafe s) : ∃ t, exec .restTimerExpiry s = .next t ∧ RosterSafe t := by
  refine ⟨_, rfl, rosterSafe_whenRunning h fun im r => ?_⟩
  split
  · exact rosterSafe_finishRoster (s := { s with slc.restTimer := none, slc.tx := .on, slc.bitErrorRun := 0 }) r (h.ok r)
  · exact h

theorem rosterSafe_ownFrameCompletion (acknowledged : Bool) {s : State} (h : RosterSafe s) :
    ∃ t, exec (.ownFrameCompletion acknowledged) s = .next t ∧ RosterSafe t := by
  refine ⟨_, rfl, rosterSafe_whenRunning h fun im r => ?_⟩
  split
  · have reported : RosterSafe (reportCompletion im acknowledged (completeFrame s)) := by
      unfold reportCompletion
      split
      · exact rosterSafe_finishRoster (s := { completeFrame s with prs.ackSilence := 0 }) r ((h.ok r).congr rfl rfl rfl rfl)
      · exact h
    exact reported
  · exact (lineReset_reinitialise _).rosterSafe
  all_goals exact h

theorem rosterSafe_announceReceived (frame : Vector Byte 21) (mark : Bool) {s : State} (h : RosterSafe s) :
    ∃ t, exec (.announceReceived frame mark) s = .next t ∧ RosterSafe t := by
  refine ⟨_, rfl, rosterSafe_whenRunning h fun im r => ?_⟩
  dsimp only
  split
  · exact rosterSafe_judgeFrame h r fun u running ok _ _ _ same => rosterSafe_congr h same (.inl (running.trans r.symm))
  · rename_i c received
    refine rosterSafe_judgeFrame h r fun u running ok low high peer _ => ?_
    obtain ⟨a, b⟩ := claims_received received
    have only := rosterOnly_announceHeard im (frameId frame.toList) (frameSequence frame.toList) c u
    rw [deliverAnnounce_eq]
    exact rosterSafe_finishRoster (only.configured.trans running) (rosterOk_announceHeard ok _ low high peer a b)

theorem rosterSafe_leaveReceived (frame : Vector Byte 4) (mark : Bool) {s : State} (h : RosterSafe s) :
    ∃ t, exec (.leaveReceived frame mark) s = .next t ∧ RosterSafe t := by
  refine ⟨_, rfl, rosterSafe_whenRunning h fun im r => rosterSafe_judgeFrame h r fun u running ok _ _ _ _ => ?_⟩
  have only := rosterOnly_leaveHeard im (frameId frame.toList) u
  rw [deliverLeave_eq]
  exact rosterSafe_finishRoster (only.configured.trans running) (rosterOk_leaveHeard ok _)

/-- The rows of the line that change the SLC alone, but for the reinitialisation that may end the wait after RESTART. -/
theorem rosterSafe_slcOnly {c : Instr} (k : c ∈ [.leaveTimerExpiry, .quarterPeriodMark, .attemptStart, .arbitrationLoss,
    .stuffViolation, .lineIdle, .frameStartBit]) {s : State} (h : RosterSafe s) : ∃ t, exec c s = .next t ∧ RosterSafe t := by
  have any : ∀ x : Slc, RosterSafe { s with slc := x } := fun _ => h
  simp only [List.mem_cons, List.not_mem_nil, or_false] at k
  rcases k with rfl | rfl | rfl | rfl | rfl | rfl | rfl
  · refine ⟨_, rfl, rosterSafe_whenRunning h fun im r => ?_⟩
    split
    · exact rosterSafe_leaveCheck (any _)
    · exact h
  · refine ⟨_, rfl, rosterSafe_whenRunning h fun im r => ?_⟩
    split
    · exact any _
    all_goals exact h
  · refine ⟨_, rfl, rosterSafe_whenRunning h fun im r => ?_⟩
    split
    · split
      · exact any _
      · exact h
    all_goals exact h
  · refine ⟨_, rfl, rosterSafe_whenRunning h fun im r => ?_⟩
    split
    · exact rosterSafe_leaveCheck (any _)
    all_goals exact h
  · refine ⟨_, rfl, rosterSafe_whenRunning h fun im r => ?_⟩
    split
    · exact any _
    · exact h
  · refine ⟨_, rfl, ?_⟩
    split
    · exact h
    · exact any _
  · refine ⟨_, rfl, ?_⟩
    split
    · exact rosterSafe_whenRunning (any _) fun im r => any _
    · exact h

theorem rosterSafe_exec (c : Instr) {s t : State} (h : RosterSafe s) (e : exec c s = .next t) : RosterSafe t := by
  have of_row : (∃ t, exec c s = .next t ∧ RosterSafe t) → RosterSafe t := fun ⟨u, eu, safe⟩ => by
    rw [eu] at e; cases e; exact safe
  by_cases k : changesLine c = false
  · obtain ⟨u, eu, elsewhere⟩ := exec_elsewhere c s k
    exact of_row ⟨u, eu, elsewhere.rosterSafe h⟩
  by_cases start : startsUp c = true
  · exact rosterSafe_startsUp start h e
  cases c with
  | restart => exact rosterSafe_restart h e
  | sharePeriodTick => exact of_row (rosterSafe_sharePeriodTick h)
  | bitError => exact of_row (rosterSafe_bitError h)
  | restTimerExpiry => exact of_row (rosterSafe_restTimerExpiry h)
  | ownFrameCompletion acknowledged => exact of_row (rosterSafe_ownFrameCompletion acknowledged h)
  | announceReceived frame mark => exact of_row (rosterSafe_announceReceived frame mark h)
  | leaveReceived frame mark => exact of_row (rosterSafe_leaveReceived frame mark h)
  | leaveTimerExpiry | quarterPeriodMark | attemptStart | arbitrationLoss | stuffViolation | lineIdle | frameStartBit =>
    exact of_row (rosterSafe_slcOnly (by simp) h)
  | powerOn | resetLineAsserted | resetLineReleased | configurationReadEnd | passTimeout | configure => exact absurd rfl start
  | _ => exact absurd rfl k

/-- Settles O10: a row of the roster works the effective values anew from entries in range and then evaluates the mode; every other
row leaves the PRS as it was, starts it or resets it. -/
theorem rosterStaysSafe : Obligations.RosterStaysSafe := by
  intro s t h e
  refine step_keeps (fun c s t => rosterSafe_exec c) (fun s h => ?_) (fun s _ _ h => h) h e
  obtain ⟨-, prs, configured⟩ := advance_line s
  exact rosterSafe_congr h prs configured

end Sys2Proof.Machine
end

section
/-! SUPPORT and the proof for O49: what an attempt sends, what the announced values are, and R8 over every command but the seven that send, end
or owe a frame. -/

namespace Sys2Proof.Machine

/-- The own heard set holds the ids of the FRESH entries (R29). -/
theorem heardSet_getLsbD (roster : List Entry) (n : Nat) (h : n < 32) :
    (heardSet roster).getLsbD n = true ↔ ∃ e ∈ roster, e.fresh = true ∧ e.id = n := by
  have bit : ∀ id, (idBit id).getLsbD n = decide (id = n) := by
    intro id
    rw [idBit, BitVec.getLsbD_ofNat, Nat.testBit_two_pow]
    simp [h]
  have fold : ∀ l : BitVec 32, (roster.foldl (fun h e => if e.fresh then h ||| idBit e.id else h) l).getLsbD n = true ↔
      l.getLsbD n = true ∨ ∃ e ∈ roster, e.fresh = true ∧ e.id = n := by
    induction roster with
    | nil => simp
    | cons e es ih =>
      intro l
      rw [List.foldl_cons, ih]
      cases fresh : e.fresh
      · simp [fresh]
      · simp [fresh, BitVec.getLsbD_or, bit, or_assoc]
  rw [heardSet, fold]
  simp

theorem announces_iff {s : State} : announces s = true ↔ s.slc.leaveWait = false ∧ s.slc.tx ≠ .barred := by
  simp [announces]

/-- What the values of an ANNOUNCE are (R4, R29, R70). -/
theorem ownClaim_eq (im : Image) (u : OutletState) :
    ownClaim im u =
      if u.osc.state = .dispensing then ⟨true, u.share.split, tierWeight im u.osc.header.tier, false⟩
      else if u.osc.state = .parked then ⟨true, 0, tierWeight im u.osc.header.tier, true⟩
      else ⟨false, 0, 1, false⟩ := by
  unfold ownClaim
  cases u.osc.state <;> rfl

-- R8 over the rows of the line.

/-- A row that changes neither the slot nor what the announced values and R8's tests are read from. -/
theorem noted_of_slc {im : Image} {s : State} {x : Slc} (slot : x.slot = s.slc.slot) (lastDone : x.lastDone = s.slc.lastDone)
    (reference : x.reference = s.slc.reference) (wait : x.leaveWait = s.slc.leaveWait) (tx : x.tx = s.slc.tx) :
    Noted im s { s with slc := x } :=
  SlotMoved.noted ⟨rfl, lastDone, reference, by simp only [announces, wait, tx], .inl slot⟩ rfl

theorem noted_acceptFrame (im : Image) (s : State) : Noted im s (acceptFrame s) := noted_of_slc rfl rfl rfl rfl rfl

theorem not_running_reinitialise (im : Image) (s : State) : (reinitialise s).configured ≠ .running im := nofun

theorem noted_judgeFrame {im : Image} {bytes : List Byte} {mark malformed : Bool} {deliver : State → State} {s : State}
    (barred : s.slc.tx = .barred → s.slc.slot = .empty) (k : Noted im s (deliver (acceptFrame s)))
    (running : (judgeFrame im bytes mark malformed deliver s).configured = .running im)
    (tx : (judgeFrame im bytes mark malformed deliver s).slc.tx = .barred → s.slc.tx = .barred) :
    Noted im s (judgeFrame im bytes mark malformed deliver s) := by
  rcases judgeFrame_cases im bytes mark malformed deliver s with e | ⟨-, e | e | ⟨-, -, e⟩⟩ <;> rw [e] at running tx ⊢
  · exact .refl im s
  · exact noted_of_slc rfl rfl rfl rfl rfl
  · unfold conflictFrame at running tx ⊢
    dsimp only at running tx ⊢
    split at running <;> rename_i already
    · rw [if_pos already] at tx ⊢
      rcases leaveCheck_cases (barTransmitter s) with ⟨gone, -⟩ | stays
      · rw [gone] at running; exact absurd running (not_running_reinitialise im _)
      · rw [stays]
        refine SlotMoved.noted ⟨rfl, rfl, rfl, ?_, .inl (barred already).symm⟩ rfl
        simp only [announces, already]
        rfl
    · rw [if_neg already] at tx ⊢
      rcases leaveCheck_cases (noteTransmitter im s (barTransmitter s)) with ⟨gone, -⟩ | stays
      · rw [gone] at running; exact absurd running (not_running_reinitialise im _)
      · rw [stays] at tx
        have moves := moves_finishRoster im s (barTransmitter s)
        have slc := (beside_evaluateMode_slc im (barTransmitter s)).1
        exact absurd (tx (by rw [noteTransmitter, moves.slc, slc]; rfl)) already
  · exact k

theorem noted_exec {im : Image} {c : Instr} {s t : State} (r : s.configured = .running im) (r' : t.configured = .running im)
    (e : exec c s = .next t) (barred : s.slc.tx = .barred → s.slc.slot = .empty) (wait : t.slc.leaveWait = s.slc.leaveWait)
    (tx : t.slc.tx = .barred → s.slc.tx = .barred)
    (other : c ∉ [.sharePeriodTick, .quarterPeriodMark, .attemptStart, .arbitrationLoss, .bitError, .ownFrameCompletion true,
      .ownFrameCompletion false]) : Noted im s t := by
  have row : ∀ {f : Image → State}, Host.Outcome.next (whenRunning s f) = (.next t : Host.Outcome State Fault Refusal) → t = f im :=
    fun h => by cases h; exact whenRunning_running r _
  by_cases k : changesLine c = false
  · obtain ⟨u, eu, elsewhere⟩ := exec_elsewhere c s k
    rw [eu] at e; cases e
    exact (elsewhere.1 im r).2
  by_cases start : startsUp c = true
  · rcases exec_startsUp start e with reset | quiet | ⟨n, -⟩
    · exact absurd r' (reset.1 im)
    · exact (quiet.follows im).2
    · exact absurd r (n im)
  cases c with
  | restart =>
    rcases exec_restart e with quiet | ⟨im', u, serves, quiet, rfl⟩
    · exact (quiet.follows im).2
    · unfold beginLeave at r' wait
      split at wait
      · rw [serves.2] at wait; cases wait
      · rename_i off
        rw [if_neg off] at r'; exact absurd r' (not_running_reinitialise im u)
  | leaveTimerExpiry =>
    obtain rfl := row e
    split at r'
    · rename_i waits
      rw [if_pos waits]
      rcases leaveCheck_cases { s with slc.leaveTimer := none, slc.leaveExpired := true } with ⟨gone, -⟩ | stays
      · rw [gone] at r'; exact absurd r' (not_running_reinitialise im _)
      · rw [stays]; exact noted_of_slc rfl rfl rfl rfl rfl
    · rename_i idle
      rw [if_neg idle]; exact .refl im s
  | restTimerExpiry =>
    obtain rfl := row e
    split
    · rename_i rests
      refine SlotMoved.finishRoster ⟨rfl, rfl, rfl, ?_, .inl rfl⟩
      simp only [announces, rests.2]
      rfl
    · exact .refl im s
  | stuffViolation =>
    obtain rfl := row e
    split
    · exact noted_of_slc rfl rfl rfl rfl rfl
    · exact .refl im s
  | announceReceived frame mark =>
    obtain rfl := row e
    dsimp only at r' tx ⊢
    split at r' <;> rename_i received <;> simp only [received] at tx ⊢
    · exact noted_judgeFrame barred (noted_of_slc rfl rfl rfl rfl rfl) r' tx
    · refine noted_judgeFrame barred ?_ r' tx
      have only := rosterOnly_announceHeard im (frameId frame.toList) (frameSequence frame.toList) ‹Announced› (acceptFrame s)
      exact (noted_acceptFrame im s).trans (SlotMoved.of_slc only.now only.slc).finishRoster
  | leaveReceived frame mark =>
    obtain rfl := row e
    refine noted_judgeFrame barred ?_ r' tx
    have only := rosterOnly_leaveHeard im (frameId frame.toList) (acceptFrame s)
    exact (noted_acceptFrame im s).trans (SlotMoved.of_slc only.now only.slc).finishRoster
  | lineIdle =>
    cases e
    split
    · exact .refl im s
    · exact noted_of_slc rfl rfl rfl rfl rfl
  | frameStartBit =>
    cases e
    split
    · rw [whenRunning_running (s := { s with slc.lineIdle := false }) r]
      exact noted_of_slc rfl rfl rfl rfl rfl
    · exact .refl im s
  | sharePeriodTick | quarterPeriodMark | attemptStart | arbitrationLoss | bitError => simp at other
  | ownFrameCompletion acknowledged => cases acknowledged <;> simp at other
  | powerOn | resetLineAsserted | resetLineReleased | configurationReadEnd | passTimeout | configure => exact absurd rfl start
  | _ => exact absurd rfl k

/-- Settles O49: the start of an attempt and the values by their definitions, an update by its cases, and R8 over the other commands by
`noted_exec`. -/
theorem attemptStartSendsTheDueFrame : Obligations.AttemptStartSendsTheDueFrame := by
  refine ⟨fun im s r => ⟨fun kind slot on idle => ?_, fun mark slot => ?_⟩, fun im s => ?_, fun im before s => ⟨fun n => ?_, fun h => ?_⟩,
    fun im c s t r r' e barred wait tx other => ?_⟩
  · simp only [exec, execAttemptStart, whenRunning_running r, slot, on, idle, and_self, if_true]
    cases kind <;> rfl
  · simp only [exec, execQuarterPeriodMark, whenRunning_running r, slot]
  · exact ⟨rfl, rfl, rfl, rfl, ownClaim_eq im s.outA, ownClaim_eq im s.outB, fun n h => heardSet_getLsbD _ n h⟩
  · rcases noteUpdate_cases im before s with same | ⟨empty, changed, news, can, -⟩
    · exact same
    · obtain ⟨wait, tx⟩ := announces_iff.mp can
      exact absurd ⟨changed, news, empty, wait, tx⟩ n
  · obtain ⟨changed, news, empty, wait, tx⟩ := h
    have updates : noteUpdate im before s = { s with slc.slot := slotAtUpdate im s } :=
      if_pos ⟨changed, news, empty, announces_iff.mpr ⟨wait, tx⟩⟩
    rw [updates]
    refine ⟨fun done last soon => ?_, fun late => ?_⟩
    · simp only [slotAtUpdate, last]
      rw [if_pos (show s.now < done + quarterPeriod im from soon)]
      rfl
    · unfold slotAtUpdate
      split
      · rename_i done last
        rw [if_neg (Nat.not_lt.mpr (show done + quarterPeriod im ≤ s.now from late done last))]
      · rfl
  · have noted := noted_exec r r' e barred wait tx other
    refine ⟨fun stays => ?_, fun empty wait tx => ⟨?_, fun differs news => ?_⟩⟩
    · rcases noted.slot with same | ⟨empty, can, -⟩
      · exact same
      · obtain ⟨wait, tx⟩ := announces_iff.mp can
        rcases stays with k | k | k
        · exact absurd empty k
        · rw [k] at wait; cases wait
        · exact absurd k tx
    · rcases noted.slot with same | ⟨-, -, owed⟩
      · exact .inl (same.trans empty)
      · exact .inr owed
    · exact noted.owed empty (announces_iff.mpr ⟨wait, tx⟩) differs news

end Sys2Proof.Machine
end

section
/-! SUPPORT. Event flags (R197): what raising one does to another, and that a computation raises none but the outlets' change events; with
the end of an event at the PRS as later statements speak of it. -/

namespace Sys2Proof.Machine

theorem flagIndex_inj {f g : EventFlag} : flagIndex f = flagIndex g ↔ f = g := by
  cases f <;> cases g <;> simp [flagIndex]

theorem flagIndex_lt (f : EventFlag) : flagIndex f < 15 := by cases f <;> decide

/-- A raised flag is set, and every other flag is as it was (R197). -/
theorem flagSet_raise (f g : EventFlag) (s : State) : (raise f s).flagSet g = (s.flagSet g || decide (g = f)) := by
  have bit : (flagMask f).getLsbD (flagIndex g) = decide (g = f) := by
    rw [flagMask, BitVec.getLsbD_ofNat, Nat.testBit_two_pow, decide_eq_true (flagIndex_lt g), Bool.true_and, decide_eq_decide,
      flagIndex_inj]
    exact eq_comm
  rw [State.flagSet, raise_hpt, BitVec.getLsbD_or, bit]
  rfl

theorem flagSet_of_flags {s t : State} (h : t.hpt.flags = s.hpt.flags) (f : EventFlag) : t.flagSet f = s.flagSet f := by
  rw [State.flagSet, State.flagSet, h]

/-- No flag but the outlets' change events has changed (R118). -/
def OnlyChanges (s t : State) : Prop := ∀ f, f ≠ .outletAChange → f ≠ .outletBChange → t.flagSet f = s.flagSet f

theorem OnlyChanges.of_hpt {s t : State} (h : t.hpt = s.hpt) : OnlyChanges s t := fun f _ _ => flagSet_of_flags (by rw [h]) f

theorem OnlyChanges.refl (s : State) : OnlyChanges s s := fun _ _ _ => rfl

theorem OnlyChanges.trans {s t u : State} (h : OnlyChanges s t) (k : OnlyChanges t u) : OnlyChanges s u :=
  fun f a b => (k f a b).trans (h f a b)

theorem onlyChanges_modOut (s : State) (o : Outlet) (g : OutletState → OutletState) : OnlyChanges s (s.modOut o g) := .of_hpt (by simp)

theorem onlyChanges_setSession (o : Outlet) (x : Session) (s : State) : OnlyChanges s (setSession o x s) := by
  intro f a b
  have other : f ≠ changeFlag o := by cases o <;> assumption
  rw [setSession, flagSet_raise, decide_eq_false other, Bool.or_false]
  exact onlyChanges_modOut s o _ f a b

theorem onlyChanges_park (im : Image) (o : Outlet) (s : State) : OnlyChanges s (park im o s) := by
  unfold park
  refine (onlyChanges_setSession o .parked s).trans (.trans ?_ (onlyChanges_modOut _ o _))
  split
  · exact onlyChanges_modOut _ o _
  · exact .refl _

theorem onlyChanges_handOverAt (im : Image) (o : Outlet) (s : State) : OnlyChanges s (handOverAt im o s) := by
  unfold handOverAt
  split
  · dsimp only
    refine .trans (onlyChanges_modOut s o fun u => { u with grl.target := (s.out o).share.target }) ?_
    split
    · split
      · exact onlyChanges_park im o _
      split
      · exact onlyChanges_modOut _ o _
      split <;> exact onlyChanges_modOut _ o _
    · split
      · exact (onlyChanges_setSession o .dispensing _).trans (onlyChanges_modOut _ o _)
      · exact .refl _
    all_goals exact onlyChanges_modOut _ o _
  · exact .refl s

theorem onlyChanges_holdRises (im : Image) (s : State) : OnlyChanges s (holdRises im s) := by
  unfold holdRises settleRises
  split
  · exact .of_hpt rfl
  split
  · exact .of_hpt rfl
  · exact .refl s

theorem onlyChanges_computeOnce (im : Image) (s : State) : OnlyChanges s (computeOnce im s) :=
  ((OnlyChanges.of_hpt (s := s) (t := compute im s) rfl).trans ((onlyChanges_handOverAt im .a _).trans
    ((onlyChanges_handOverAt im .b _).trans (onlyChanges_holdRises im _)))).trans (.of_hpt (noteUpdate_hpt im _ _))

theorem onlyChanges_computations (im : Image) (n : Nat) (s : State) : OnlyChanges s (computations im n s) := by
  induction n generalizing s with
  | zero => exact .refl s
  | succ n ih =>
    unfold computations
    dsimp only
    split
    · exact onlyChanges_computeOnce im s
    · exact (onlyChanges_computeOnce im s).trans (ih _)

theorem onlyChanges_computation (im : Image) (s : State) : OnlyChanges s (computation im s) := onlyChanges_computations im 5 s

theorem onlyChanges_finishRoster (im : Image) (before s : State) : OnlyChanges (evaluateMode im s) (finishRoster im before s) := by
  have noted : OnlyChanges (evaluateMode im s) (noteUpdate im (announced im before) (evaluateMode im s)) := .of_hpt (by simp)
  unfold finishRoster
  dsimp only
  split
  · exact noted.trans (onlyChanges_computation im _)
  · exact noted

/-- A mode evaluation raises LINE MODE at a change, and no other flag (R40). -/
theorem flagSet_evaluateMode (im : Image) (s : State) (f : EventFlag) :
    (evaluateMode im s).flagSet f = (s.flagSet f || decide (f = .lineMode ∧ evaluatedMode im s ≠ s.prs.mode)) := by
  unfold evaluateMode
  dsimp only
  split
  · simp [*]
  · rename_i changes
    have raised : (raise .lineMode { s with prs.mode := evaluatedMode im s }).flagSet f = (s.flagSet f || decide (f = .lineMode)) :=
      flagSet_raise ..
    simp only [changes, ne_eq, not_false_eq_true, and_true]
    rw [← raised]
    split <;> rfl

/-- What the statements say of the end of an event at the PRS, which evaluates the mode from `s` and ends in `t` (R39 to R41). -/
structure Evaluated (im : Image) (s t : State) : Prop where
  prs : t.prs = (evaluateMode im s).prs
  moves : Moves im (evaluateMode im s) t
  lineMode : t.flagSet .lineMode = true ↔ s.flagSet .lineMode = true ∨ t.prs.mode ≠ s.prs.mode
  others : ∀ f, f ≠ .outletAChange → f ≠ .outletBChange → f ≠ .lineMode → t.flagSet f = s.flagSet f
  flags : FlagsKept s t
  shared : ∀ slot, Shared
    { s with prs := t.prs, slc := { s.slc with slot := slot }, hpt := { s.hpt with flags := t.hpt.flags } } t

theorem sharesOnly_evaluated {s m t : State} {p : Prs} {f : BitVec 15} (keeps : m = { s with prs := p, hpt.flags := f })
    (prs : t.prs = m.prs) (e : t = sharesOnly m t) (slot : Slot) :
    t = sharesOnly { s with prs := t.prs, slc := { s.slc with slot := slot }, hpt := { s.hpt with flags := t.hpt.flags } } t := by
  subst keeps
  dsimp only at prs
  rw [prs]
  exact e

theorem Evaluated.of_shared {im : Image} {s t : State} (moves : Moves im (evaluateMode im s) t) (shared : Shared (evaluateMode im s) t)
    (only : OnlyChanges (evaluateMode im s) t) : Evaluated im s t := by
  obtain ⟨mode, flags, keeps⟩ := evaluateMode_spec im s
  have raised := flagSet_evaluateMode im s
  obtain ⟨e, a, b, kept⟩ := shared
  refine ⟨moves.prs, moves, ?_, fun f a b c => ?_, flags.trans kept, fun slot => ⟨?_, ?_, ?_, BitVec.and_self⟩⟩
  · rw [only .lineMode nofun nofun, raised, moves.prs, mode]
    simp
  · rw [only f a b, raised, decide_eq_false fun h => c h.1, Bool.or_false]
  · have prs := moves.prs
    exact sharesOnly_evaluated keeps prs e slot
  · rw [keeps] at a; exact a
  · rw [keeps] at b; exact b

theorem evaluated_finishRoster (im : Image) (before s : State) : Evaluated im s (finishRoster im before s) := by
  have shared : Shared (evaluateMode im s) (finishRoster im before s) := by
    unfold finishRoster
    dsimp only
    split
    · exact (shared_noteUpdate im _ _).trans (shared_computation im _)
    · exact shared_noteUpdate im _ _
  exact .of_shared (moves_finishRoster im before s) shared (onlyChanges_finishRoster im before s)

theorem evaluated_tickRoster (im : Image) (s : State) : Evaluated im (rosterTicked im s) (tickRoster im s) :=
  .of_shared (moves_tickRoster im s) ((shared_noteUpdate im _ _).trans (shared_computation im _))
    ((OnlyChanges.of_hpt (noteUpdate_hpt im _ _)).trans (onlyChanges_computation im _))

/-- A mode evaluation looks at the PRS and at whether the transmitter is ON (R35, R39). -/
theorem evaluateMode_prs_congr (im : Image) {s t : State} (prs : t.prs = s.prs) (tx : t.slc.tx = s.slc.tx) :
    (evaluateMode im t).prs = (evaluateMode im s).prs := by
  have mode : evaluatedMode im t = evaluatedMode im s := by
    unfold evaluatedMode isolationCondition
    rw [prs, tx]
  unfold evaluateMode
  dsimp only
  rw [mode, prs]
  split
  · exact prs
  split
  · rfl
  · rfl

theorem Shared.with_slc {s t : State} (h : Shared s t) (x : Slc) : Shared { s with slc := x } { t with slc := x } := by
  obtain ⟨e, a, b, kept⟩ := h
  refine ⟨?_, a, b, kept⟩
  conv_lhs => rw [e]
  rfl

theorem Evaluated.slc_of_ne_empty {im : Image} {s t : State} (h : Evaluated im s t) (n : s.slc.slot ≠ .empty) : t.slc = s.slc := by
  have slc := (beside_evaluateMode_slc im s).1
  rw [h.moves.slc, h.moves.toSlotMoved.slot_of_ne_empty (slc ▸ n), slc]

theorem Evaluated.now {im : Image} {s t : State} (h : Evaluated im s t) : t.now = s.now :=
  h.moves.now.trans (rosterOnly_evaluateMode im s).now

end Sys2Proof.Machine
end

section
/-! PROOF. How an own frame ends (R3, R10, R12, R13) and the LEAVE wait (R20). -/

namespace Sys2Proof.Machine

/-- Settles O51: the slot is not EMPTY while the frame is on the line, so the mode evaluation at an acknowledged completion leaves the
SLC to R10 alone. -/
theorem ownAnnounceCompletes : Obligations.OwnAnnounceCompletes := by
  intro im s n content r sent
  refine ⟨?_, ?_⟩
  · simp only [exec, execOwnFrameCompletion, whenRunning_running r, sent, reportCompletion, Bool.false_eq_true, if_false]
    rfl
  · have ev : Evaluated im { completeFrame s with prs.ackSilence := 0 } (reportCompletion im true (completeFrame s)) :=
      evaluated_finishRoster ..
    refine ⟨completeAnnounce im content (reportCompletion im true (completeFrame s)), ?_, ?_,
      ev.prs.trans (evaluateMode_prs_congr im rfl rfl), ev.lineMode, ev.flags, (ev.shared .empty).with_slc _⟩
    · simp only [exec, execOwnFrameCompletion, whenRunning_running r, sent]
    · have slc := ev.slc_of_ne_empty (sent ▸ nofun)
      have now := ev.now
      generalize reportCompletion im true (completeFrame s) = w at slc now
      simp only [completeAnnounce, slc, now]
      rfl

theorem Evaluated.slc {im : Image} {s t : State} (h : Evaluated im s t) : t.slc = { s.slc with slot := t.slc.slot } := by
  rw [h.moves.slc, (beside_evaluateMode_slc im s).1]

/-- With the transmitter not ON, a station that is not alone is ISOLATED (R35, R39). -/
theorem evaluatedMode_not_on {im : Image} {s : State} (h : s.slc.tx ≠ .on) :
    evaluatedMode im s = if s.prs.nEff = 1 then .joined else .isolated := by
  have cut : isolationCondition im s = true := by simp [isolationCondition, h]
  simp [evaluatedMode, cut]

theorem leaveCheck_ends {s : State} (wait : s.slc.leaveWait = true)
    (ends : s.slc.tx ≠ .on ∨ (s.slc.leaveExpired = true ∧ sendingLeave s = false)) : leaveCheck s = reinitialise s := by
  unfold leaveCheck
  rw [if_pos]
  simpa [wait] using ends

theorem leaveCheck_stays {s : State}
    (stays : s.slc.leaveWait = false ∨ (s.slc.tx = .on ∧ (s.slc.leaveExpired = false ∨ sendingLeave s = true))) :
    leaveCheck s = s := by
  unfold leaveCheck
  rw [if_neg]
  rcases stays with wait | ⟨on, expired | sent⟩ <;> simp [*]

theorem sendingLeave_due {s : State} {kind : FrameKind} (h : s.slc.slot = .due kind) : sendingLeave s = false := by
  simp [sendingLeave, h]

/-- The reinitialisation leaves nothing of what an event at the PRS has changed. -/
theorem Evaluated.reinitialised {im : Image} {s t : State} (h : Evaluated im s t) : Reinitialised [] s (reinitialise t) := by
  have keeps := (h.shared .empty).1
  have again := reinitialise_spec t
  generalize reinitialise t = v at again
  rw [keeps] at again
  exact again

/-- A bit error as it is counted (R12), with the rest at the sixteenth (R13). -/
def countBitError (im : Image) (f : OwnFrame) (s : State) : State :=
  if (abortFrame f s).slc.bitErrorRun = 16 then noteTransmitter im s (startRest (abortFrame f s)) else abortFrame f s

theorem exec_bitError {im : Image} {s : State} {f : OwnFrame} (r : s.configured = .running im) (sent : s.slc.slot = .sending f) :
    exec .bitError s = .next (drivingAbort (leaveCheck (countBitError im f s))) := by
  simp only [exec, execBitError, whenRunning_running r, sent]
  rfl

theorem countBitError_of_lt (im : Image) (f : OwnFrame) {s : State} (h : s.slc.bitErrorRun < 15) :
    countBitError im f s = abortFrame f s := by
  unfold countBitError
  rw [if_neg]
  simp only [abortFrame, satAdd, restCount]
  omega

theorem evaluated_countBitError (im : Image) (f : OwnFrame) {s : State} (h : 15 ≤ s.slc.bitErrorRun) :
    Evaluated im (startRest (abortFrame f s)) (countBitError im f s) := by
  unfold countBitError
  rw [if_pos]
  · exact evaluated_finishRoster ..
  · simp only [abortFrame, satAdd, restCount]
    omega

theorem countBitError_slc (im : Image) (f : OwnFrame) {s : State} (h : 15 ≤ s.slc.bitErrorRun) :
    (countBitError im f s).slc = (startRest (abortFrame f s)).slc := by
  refine (evaluated_countBitError im f h).slc_of_ne_empty fun empty => ?_
  obtain ⟨kind, due⟩ := retrySlot_due s f
  exact absurd (due.symm.trans empty) nofun

theorem reinitialised_countBitError (im : Image) (f : OwnFrame) (s : State) : Reinitialised [] s (reinitialise (countBitError im f s)) := by
  by_cases h : s.slc.bitErrorRun < 15
  · rw [countBitError_of_lt im f h]
    exact reinitialise_spec (abortFrame f s)
  · exact (evaluated_countBitError im f (Nat.not_lt.mp h)).reinitialised

/-- A counted bit error leaves the slot DUE again and the LEAVE wait as it was (R12, R20). -/
theorem countBitError_slot (im : Image) (f : OwnFrame) (s : State) :
    (countBitError im f s).slc.slot = retrySlot s f ∧ (countBitError im f s).slc.leaveWait = s.slc.leaveWait ∧
      (countBitError im f s).slc.leaveExpired = s.slc.leaveExpired := by
  by_cases h : s.slc.bitErrorRun < 15
  · rw [countBitError_of_lt im f h]
    exact ⟨rfl, rfl, rfl⟩
  · rw [countBitError_slc im f (Nat.not_lt.mp h)]
    exact ⟨rfl, rfl, rfl⟩

/-- What the statements say of an event that reports a change of the transmitter's state to the PRS, from `s` by way of `u` to `t`. -/
def TransmitterReported (im : Image) (s u t : State) : Prop :=
  t.prs = (evaluateMode im u).prs ∧ t.slc = u.slc ∧ FlagsKept u t ∧
    (t.flagSet .lineMode = true ↔ s.flagSet .lineMode = true ∨ t.prs.mode ≠ s.prs.mode) ∧
    Shared { u with prs := t.prs, hpt := { u.hpt with flags := t.hpt.flags } } t

/-- The line's own values may be set with a report: the mode follows from the transmitter's state alone. -/
theorem Evaluated.reported {im : Image} {s u t : State} (h : Evaluated im u t) (prs : u.prs = s.prs) (hpt : u.hpt = s.hpt) {x : Slc}
    (tx : x.tx = u.slc.tx) : TransmitterReported im s { u with slc := x } { t with slc := x } := by
  refine ⟨h.prs.trans (evaluateMode_prs_congr im rfl tx.symm), rfl, h.flags, ?_, (h.shared .empty).with_slc x⟩
  rw [← prs, ← flagSet_of_flags (s := s) (t := u) (by rw [hpt])]
  exact h.lineMode

theorem bitError_outside_leaveWait {im : Image} {s : State} {f : OwnFrame} (r : s.configured = .running im)
    (sent : s.slc.slot = .sending f) (wait : s.slc.leaveWait = false) :
    exec .bitError s = .next (drivingAbort (countBitError im f s)) := by
  rw [exec_bitError r sent, leaveCheck_stays]
  rw [(countBitError_slot im f s).2.1]
  exact .inl wait

theorem bitError_reinitialises {im : Image} {s : State} {f : OwnFrame} (r : s.configured = .running im) (sent : s.slc.slot = .sending f)
    (wait : s.slc.leaveWait = true) (ends : 15 ≤ s.slc.bitErrorRun ∨ s.slc.leaveExpired = true) :
    ∃ t, exec .bitError s = .next t ∧ Reinitialised (List.replicate 6 false) s t := by
  obtain ⟨slot, waits, expires⟩ := countBitError_slot im f s
  obtain ⟨kind, due⟩ := retrySlot_due s f
  refine ⟨_, exec_bitError r sent, ?_⟩
  rw [leaveCheck_ends (waits.trans wait)]
  · exact drivingAbort_spec (reinitialised_countBitError im f s)
  · rcases ends with many | expired
    · rw [countBitError_slc im f many]
      exact .inl nofun
    · exact .inr ⟨expires.trans expired, sendingLeave_due (slot.trans due)⟩

theorem retrySlot_eq (s : State) (f : OwnFrame) : retrySlot s f = .due (if s.slc.leaveWait then .leave else frameKind f) := by
  unfold retrySlot
  split <;> rfl

/-- A lost arbitration as it is counted (R3). -/
def countLoss (f : OwnFrame) (s : State) : State :=
  { s with
    slc.arbitrationLosses := satAdd maxCount s.slc.arbitrationLosses 1
    slc.slot := retrySlot s f
    slc.tickOwed := false
    slc.receiver := .receiving
    slc.drive := [] }

theorem exec_arbitrationLoss {im : Image} {s : State} {f : OwnFrame} (r : s.configured = .running im)
    (sent : s.slc.slot = .sending f) : exec .arbitrationLoss s = .next (leaveCheck (countLoss f s)) := by
  simp only [exec, execArbitrationLoss, whenRunning_running r, sent]
  rfl

theorem TransmitterReported.with_end {im : Image} {s u t : State} {x : Slc}
    (h : TransmitterReported im s u { t with slc := x }) (slc : t.slc = x) : TransmitterReported im s u t := by
  subst slc
  exact h

/-- The end of the rest (R13). -/
def endRest (s : State) : State := { s with slc.restTimer := none, slc.tx := .on, slc.bitErrorRun := 0 }

theorem exec_restTimerExpiry {im : Image} {s : State} (r : s.configured = .running im) (resting : s.slc.tx = .resting)
    (timer : s.slc.restTimer.isSome = true) : exec .restTimerExpiry s = .next (noteTransmitter im s (endRest s)) := by
  simp only [exec, execRestTimerExpiry, whenRunning_running r, resting, timer, and_self, if_true]
  rfl

/-- Settles O50: by the end of each attempt as it is counted, with `Evaluated` for the reports to the PRS. -/
theorem lostAndAbortedFramesStayDue : Obligations.LostAndAbortedFramesStayDue := by
  refine ⟨fun im s frame r sent wait => ?_, fun im s r =>
    ⟨fun frame sent => ⟨fun few wait => ?_, fun many wait => ?_, fun many wait => ?_⟩,
    fun resting timer => ?_⟩⟩
  · rw [exec_arbitrationLoss r sent, leaveCheck_stays (s := countLoss frame s) (wait.imp id fun h => ⟨h.2, .inl h.1⟩), countLoss,
      retrySlot_eq]
    rfl
  · rw [exec_bitError r sent, countBitError_of_lt im frame few,
      leaveCheck_stays (s := abortFrame frame s) (wait.imp id fun h => ⟨h.2, .inl h.1⟩), abortFrame, retrySlot_eq]
    rfl
  · have ev := evaluated_countBitError im frame many
    refine ⟨_, bitError_outside_leaveWait r sent wait, ?_, ?_⟩
    · rw [drivingAbort, countBitError_slc im frame many, ← retrySlot_eq]
      exact ev.reported rfl rfl rfl
    · exact (congrArg Prs.mode ev.prs).trans ((evaluateMode_spec im _).1.trans (evaluatedMode_not_on nofun))
  · exact bitError_reinitialises r sent wait (.inl many)
  · have ev : Evaluated im (endRest s) (noteTransmitter im s (endRest s)) := evaluated_finishRoster ..
    refine ⟨_, exec_restTimerExpiry r resting timer, ?_, fun slot => (congrArg Slc.slot (ev.slc_of_ne_empty slot) :)⟩
    have reported := ev.reported (s := s) (x := { (endRest s).slc with slot := (noteTransmitter im s (endRest s)).slc.slot }) rfl rfl
      rfl
    exact reported.with_end ev.slc

/-- RESTART where the part serves the host (R196, R210): what it answers and begins follows from the state it came to. -/
theorem exec_restart_serves {im : Image} {s : State} (h : Serves im s) :
    exec .restart s =
      .next (if s.outA.osc.state = .idle ∧ s.outB.osc.state = .idle then beginLeave (respond .ok 0x12 [] (finishCaptured .restart s))
        else refuse .wrongState 0x12 (finishCaptured .restart s)) := by
  have keeps := finishCaptured_keeps .restart s
  simp only [exec, execRestart, hostRunning_serves h]
  rw [keeps]

theorem finishCaptured_slc (c : Instr) (s : State) : (finishCaptured c s).slc = s.slc ∧ (finishCaptured c s).now = s.now := by
  rw [finishCaptured_keeps]
  exact ⟨rfl, rfl⟩

theorem beginLeave_on {s : State} (h : s.slc.tx = .on) :
    beginLeave s =
      { s with
        slc.leaveWait := true, slc.leaveTimer := some (s.now + 100), slc.leaveExpired := false, slc.slot := leaveSlot s.slc.slot } :=
  if_pos h

theorem beginLeave_not_on {s : State} (h : s.slc.tx ≠ .on) : beginLeave s = reinitialise s := if_neg h

/-- The LEAVE timer has run out (R20). -/
def expireLeave (s : State) : State := { s with slc.leaveTimer := none, slc.leaveExpired := true }

theorem exec_leaveTimerExpiry {im : Image} {s : State} (r : s.configured = .running im) (wait : s.slc.leaveWait = true)
    (timer : s.slc.leaveTimer.isSome = true) : exec .leaveTimerExpiry s = .next (leaveCheck (expireLeave s)) := by
  simp only [exec, execLeaveTimerExpiry, whenRunning_running r]
  rw [if_pos ⟨wait, timer⟩]
  rfl

/-- Settles O18: by what ends the wait (`leaveCheck_ends`), since the reinitialisation forgets what the ending event changed. -/
theorem restartLeavesAndReinitialises : Obligations.RestartLeavesAndReinitialises := by
  refine ⟨fun im s serves => ⟨fun busy => ?_, fun idleA idleB on => ?_, fun idleA idleB off => ?_⟩,
    fun im s r => ⟨fun n acknowledged sent => ?_, fun wait timer idle => ?_, fun wait timer sent on => ?_,
      fun wait expired sent => ?_⟩⟩
  · rw [exec_restart_serves serves, if_neg (by tauto)]
    rfl
  · obtain ⟨slc, now⟩ := finishCaptured_slc .restart s
    rw [exec_restart_serves serves, if_pos ⟨idleA, idleB⟩, beginLeave_on (by exact slc ▸ on)]
    generalize finishCaptured .restart s = v at slc now
    rw [← slc, ← now]
    cases h : v.slc.slot <;> (simp only [respond, h, leaveSlot]; rfl)
  · refine ⟨_, ?_, reinitialise_spec (respond .ok 0x12 [] (finishCaptured .restart s))⟩
    rw [exec_restart_serves serves, if_pos ⟨idleA, idleB⟩, beginLeave_not_on]
    exact (finishCaptured_slc .restart s).1 ▸ off
  · refine ⟨reinitialise (reportCompletion im acknowledged (completeFrame s)), ?_, ?_⟩
    · simp only [exec, execOwnFrameCompletion, whenRunning_running r, sent]
    · cases acknowledged with
      | true => exact (evaluated_finishRoster im (completeFrame s) { completeFrame s with prs.ackSilence := 0 }).reinitialised
      | false => exact reinitialise_spec (reportCompletion im false (completeFrame s))
  · exact ⟨_, (exec_leaveTimerExpiry r wait timer).trans (congrArg _ (leaveCheck_ends wait (.inr ⟨rfl, idle⟩))),
      reinitialise_spec (expireLeave s)⟩
  · exact (exec_leaveTimerExpiry r wait timer).trans (congrArg _ (leaveCheck_stays (.inr ⟨on, .inr sent⟩)))
  · obtain ⟨f, slot⟩ := sending_iff.mp sent
    obtain ⟨kind, due⟩ := retrySlot_due s f
    refine ⟨⟨_, ?_, reinitialise_spec (countLoss f s)⟩, bitError_reinitialises r slot wait (.inr expired)⟩
    rw [exec_arbitrationLoss r slot, leaveCheck_ends (s := countLoss f s) wait (.inr ⟨expired, sendingLeave_due due⟩)]

end Sys2Proof.Machine
end

section
/-! PROOF. Received frames (R15 to R18). -/

namespace Sys2Proof.Machine

theorem badFrame_iff {bytes : List Byte} {mark malformed : Bool} :
    badFrame bytes mark malformed = true ↔
      (mark = true ∨ checkGood bytes = false ∨ frameId bytes = 0 ∨ u8At bytes 0 % 4 ≠ 3) ∨ malformed = true := by
  simp only [badFrame, fillersRecessive, Bool.or_eq_true, Bool.not_eq_true', beq_iff_eq, beq_eq_false_iff_ne, or_assoc]

theorem badFrame_eq_false {bytes : List Byte} (check : checkGood bytes = true) (id : frameId bytes ≠ 0)
    (fillers : u8At bytes 0 % 4 = 3) : badFrame bytes false false = false := by
  simp [badFrame, fillersRecessive, check, id, fillers]

/-- A line mode code of 3 names no mode (Table 20). -/
theorem receivedAnnounce_isNone (frame : List Byte) : receivedAnnounce frame = none ↔ u8At frame 2 / 64 = 3 := by
  rw [receivedAnnounce, Option.map_eq_none_iff, lineModeOf_eq _ (modeCode_lt frame)]
  split <;> simp_all

section
variable {im : Image} {bytes : List Byte} {mark malformed : Bool} {deliver : State → State} {s : State}

theorem judgeFrame_of_bad (hears : receives s = true) (bad : badFrame bytes mark malformed = true) :
    judgeFrame im bytes mark malformed deliver s = discardFrame s := by
  simp only [judgeFrame, hears, bad, if_true]

theorem judgeFrame_of_own (hears : receives s = true) (good : badFrame bytes mark malformed = false)
    (own : frameId bytes = im.stationId) : judgeFrame im bytes mark malformed deliver s = conflictFrame im s := by
  simp only [judgeFrame, hears, good, own, if_true, Bool.false_eq_true, if_false]

theorem judgeFrame_of_peer (hears : receives s = true) (good : badFrame bytes mark malformed = false)
    (peer : frameId bytes ≠ im.stationId) : judgeFrame im bytes mark malformed deliver s = deliver (acceptFrame s) := by
  simp only [judgeFrame, hears, good, peer, if_true, Bool.false_eq_true, if_false]

end

section
variable {im : Image} {s : State} (r : s.configured = .running im)
include r

theorem exec_announceReceived {frame : Vector Byte 21} (mark : Bool) {c : Announced} (content : receivedAnnounce frame.toList = some c) :
    exec (.announceReceived frame mark) s =
      .next (judgeFrame im frame.toList mark false
        (deliverAnnounce im (frameId frame.toList) (frameSequence frame.toList) c) s) := by
  simp only [exec, execAnnounceReceived, whenRunning_running r, content]

theorem exec_announceReceived_malformed {frame : Vector Byte 21} (mark : Bool) (none : receivedAnnounce frame.toList = none) :
    exec (.announceReceived frame mark) s = .next (judgeFrame im frame.toList mark true (fun s => s) s) := by
  simp only [exec, execAnnounceReceived, whenRunning_running r, none]

theorem exec_leaveReceived (leave : Vector Byte 4) (mark : Bool) :
    exec (.leaveReceived leave mark) s =
      .next (judgeFrame im leave.toList mark false (deliverLeave im (frameId leave.toList)) s) := by
  simp only [exec, execLeaveReceived, whenRunning_running r]

end

/-- A station that announces no update keeps its slot (R8). -/
theorem Evaluated.slc_of_silent {im : Image} {s t : State} (h : Evaluated im s t) (silent : announces s = false) : t.slc = s.slc := by
  have slc := (beside_evaluateMode_slc im s).1
  have still : announces (evaluateMode im s) = announces s := by rw [announces, announces, slc]
  have slot : t.slc.slot = s.slc.slot := by
    rcases h.moves.slot with same | ⟨-, k, -⟩
    · rw [same, slc]
    · exact absurd (still ▸ k) (by simp [silent])
  rw [h.slc, slot]

theorem Evaluated.slc_of_barred {im : Image} {s t : State} (h : Evaluated im s t) (barred : s.slc.tx = .barred) : t.slc = s.slc :=
  h.slc_of_silent (by simp [announces, barred])

theorem evaluated_barred (im : Image) (s : State) :
    Evaluated im (barTransmitter s) (noteTransmitter im s (barTransmitter s)) := evaluated_finishRoster ..

/-- In the LEAVE wait an accepted frame with the own id begins the reinitialisation (R20). -/
theorem reinitialised_conflictFrame (im : Image) {s : State} (wait : s.slc.leaveWait = true) :
    Reinitialised [] { s with slc.lineIdle := false } (conflictFrame im s) := by
  unfold conflictFrame
  dsimp only
  split
  · rw [leaveCheck_ends (s := barTransmitter s) wait (.inl nofun)]
    exact reinitialise_spec (barTransmitter s)
  · have ev := evaluated_barred im s
    have slc := ev.slc_of_barred rfl
    rw [leaveCheck_ends]
    · exact ev.reinitialised
    · rw [slc]; exact wait
    · rw [slc]; exact .inl nofun

/-- Outside the LEAVE wait it bars the transmitter, which is reported to the PRS where it is new (R17, R35). -/
theorem conflictFrame_outside_leaveWait (im : Image) {s : State} (wait : s.slc.leaveWait = false) :
    conflictFrame im s = if s.slc.tx = .barred then barTransmitter s else noteTransmitter im s (barTransmitter s) := by
  unfold conflictFrame
  dsimp only
  rw [leaveCheck_stays]
  left
  split
  · exact wait
  · rw [(evaluated_barred im s).slc_of_barred rfl]
    exact wait

/-- Settles O53: by the judgement of a frame (`judgeFrame_of_bad`, `judgeFrame_of_own`), and the conflict in and outside the LEAVE wait. -/
theorem badAndOwnFramesAreNotDelivered : Obligations.BadAndOwnFramesAreNotDelivered := by
  refine ⟨fun im s frame leave mark r quiet hears => ?_, fun im s frame leave r quiet hears => ?_⟩
  · have receives : receives s = true := receives_iff.mpr ⟨quiet, hears⟩
    refine ⟨fun bad => ?_, fun bad => ?_⟩
    · cases content : receivedAnnounce frame.toList with
      | none =>
        rw [exec_announceReceived_malformed r mark content, judgeFrame_of_bad receives (badFrame_iff.mpr (.inr rfl))]
        rfl
      | some c =>
        have named : u8At frame.toList 2 / 64 ≠ 3 := fun code => nomatch content.symm.trans ((receivedAnnounce_isNone _).mpr code)
        rw [exec_announceReceived r mark content, judgeFrame_of_bad receives (badFrame_iff.mpr (.inl (bad.resolve_right named)))]
        rfl
    · rw [exec_leaveReceived r leave mark, judgeFrame_of_bad receives (badFrame_iff.mpr (.inl bad))]
      rfl
  · have receives : receives s = true := receives_iff.mpr ⟨quiet, hears⟩
    intro good barred result id
    have conflict : ∀ c, exec c s = .next (conflictFrame im s) → result c := by
      intro c e
      refine ⟨fun wait => ⟨_, e, reinitialised_conflictFrame im wait⟩, fun wait already => ?_, fun wait new => ?_⟩
      · rw [e, conflictFrame_outside_leaveWait im wait, if_pos already]
        rfl
      · rw [conflictFrame_outside_leaveWait im wait, if_neg new] at e
        have ev := evaluated_barred im s
        refine ⟨_, e, ev.slc_of_barred rfl, ev.prs, ?_, ?_, ev.flags, ev.shared .empty⟩
        · exact (congrArg Prs.mode ev.prs).trans ((evaluateMode_spec im _).1.trans (evaluatedMode_not_on nofun))
        · have other : (barTransmitter s).flagSet .lineMode = s.flagSet .lineMode := (flagSet_raise ..).trans (Bool.or_false _)
          rw [← other]
          exact ev.lineMode
    refine ⟨fun ok code => conflict _ ?_, fun ok => conflict _ ?_⟩
    · obtain ⟨check, own, fillers⟩ := ok
      obtain ⟨c, content⟩ := Option.ne_none_iff_exists'.mp fun none => code ((receivedAnnounce_isNone _).mp none)
      rw [exec_announceReceived r false content, judgeFrame_of_own receives (badFrame_eq_false check (own ▸ id) fillers) own]
    · obtain ⟨check, own, fillers⟩ := ok
      rw [exec_leaveReceived r leave false, judgeFrame_of_own receives (badFrame_eq_false check (own ▸ id) fillers) own]

end Sys2Proof.Machine
end

section
/-! PROOF. The tick at the PRS and the frames of a peer (R22 to R37, R42). -/

namespace Sys2Proof.Machine

theorem unheardCondition_iff {im : Image} {roster : List Entry} :
    unheardCondition im roster = true ↔
      ∃ e ∈ roster, e.fresh = true ∧ 2 ≤ e.freshRun ∧ e.mode ≠ .isolated ∧ e.heard.getLsbD im.stationId = false := by
  simp only [unheardCondition, settledEntry, List.any_eq_true, Bool.and_eq_true, decide_eq_true_eq, bne_iff_ne, Bool.not_eq_true',
    and_assoc]

section
variable {im : Image} {s u t : State} (only : RosterOnly s u) (h : Evaluated im u t)
include h

/-- The mode evaluation leaves the PRS as it came to it, but for the mode and what an entry to ISOLATED clears (R40). -/
theorem Evaluated.prs_but_mode :
    u.prs = { t.prs with mode := u.prs.mode, unheard := u.prs.unheard, heardSinceEntry := u.prs.heardSinceEntry } := by
  rw [h.prs, (evaluateMode_spec im u).2.2]

theorem Evaluated.keeps_prs :
    t.prs.roster = u.prs.roster ∧ t.prs.nEff = u.prs.nEff ∧ t.prs.unseen = u.prs.unseen ∧ t.prs.lEff = u.prs.lEff ∧
      t.prs.mismatches = u.prs.mismatches ∧ t.prs.peerSilence = u.prs.peerSilence ∧ t.prs.ackSilence = u.prs.ackSilence := by
  rw [h.prs, (evaluateMode_spec im u).2.2]
  exact ⟨rfl, rfl, rfl, rfl, rfl, rfl, rfl⟩

/-- The mode evaluation may be said of any state with the same transmitter and the PRS as the evaluation found it. -/
theorem Evaluated.prs_again (tx : s.slc.tx = u.slc.tx) {mode : LineMode} {count : Nat} {heard : Bool} (is : u.prs.mode = mode)
    (counts : u.prs.unheard = count) (hears : u.prs.heardSinceEntry = heard) :
    t.prs = (evaluateMode im
      { s with prs := { t.prs with mode := mode, unheard := count, heardSinceEntry := heard } }).prs := by
  subst is counts hears
  exact h.prs.trans (evaluateMode_prs_congr im h.prs_but_mode tx.symm)

include only

theorem Evaluated.shared_from (slot : Slot) :
    Shared { s with prs := t.prs, slc := { s.slc with slot := slot }, hpt := { s.hpt with flags := t.hpt.flags } } t := by
  have shared := h.shared slot
  rw [only.1] at shared
  exact shared

theorem Evaluated.flags_from : FlagsKept s t := only.2.trans h.flags

theorem Evaluated.slc_from : t.slc = { s.slc with slot := t.slc.slot } := h.slc.trans (by rw [only.slc])

end

/-- Only the share-period cause and the tick's own timer are at the line (R8). -/
theorem tickCause_keeps (s : State) :
    tickCause s = { s with slc := { s.slc with slot := (tickCause s).slc.slot, tickOwed := (tickCause s).slc.tickOwed } } := by
  unfold tickCause
  split
  · split <;> rfl
  · rfl

theorem tickCause_silent {s : State} (h : announces s = false) : tickCause s = s := by
  simp [tickCause, h]

theorem tickCause_sending {s : State} (h : announces s = true) {frame : OwnFrame} (slot : s.slc.slot = .sending frame) :
    tickCause s = { s with slc.tickOwed := true } := by
  simp [tickCause, h, slot]

theorem tickCause_due {s : State} {kind : FrameKind} (slot : s.slc.slot = .due kind) : tickCause s = s := by
  simp [tickCause, slot]

theorem tickCause_waiting {s : State} (h : announces s = true) (slot : s.slc.slot = .empty ∨ ∃ mark, s.slc.slot = .deferred mark) :
    tickCause s = { s with slc.slot := .due .announce } := by
  rcases slot with slot | ⟨mark, slot⟩ <;> simp [tickCause, h, slot]

/-- A frame on the line stays there (R8). -/
theorem tickCause_slot_of_sending {s : State} {frame : OwnFrame} (slot : s.slc.slot = .sending frame) :
    (tickCause s).slc.slot = .sending frame := by
  cases owes : announces s with
  | false => rw [tickCause_silent owes, slot]
  | true => rw [tickCause_sending owes slot, ← slot]

/-- The tick-owed mark is that of a frame on the line (R8). -/
theorem tickCause_tickOwed {s : State} (h : sending s = false) : (tickCause s).slc.tickOwed = s.slc.tickOwed := by
  unfold tickCause
  split
  · split
    · exact absurd ‹_› (sending_eq_false.mp h _)
    all_goals rfl
  · rfl

theorem ageEntry_eq (im : Image) (e : Entry) :
    ageEntry im e =
      if e.age + 1 = im.lapseCount then none
      else if e.fresh = true ∧ e.age + 1 = im.staleCount then some { e with age := e.age + 1, fresh := false, freshRun := 0 }
      else some { e with age := e.age + 1 } := by
  simp [ageEntry]

/-- The tick raises no flag before the mode is evaluated (R42). -/
theorem rosterTicked_hpt (im : Image) (s : State) : (rosterTicked im s).hpt = s.hpt := by
  unfold rosterTicked tickUnheard
  split
  · split <;> rfl
  · rfl

theorem evaluated_tick (im : Image) (s : State) : Evaluated im (rosterTicked im (tickCause s)) (tickRoster im (tickCause s)) :=
  evaluated_tickRoster im _

/-- A tick owes an ANNOUNCE or finds the station silent, so the mode evaluation and the computation move no slot (R8, R42). -/
theorem tick_slc (im : Image) (s : State) : (tickRoster im (tickCause s)).slc = (tickCause s).slc := by
  have ev := evaluated_tick im s
  have slc := (rosterOnly_rosterTicked im (tickCause s)).slc
  cases owes : announces s with
  | false =>
    refine (ev.slc_of_silent ?_).trans slc
    rw [announces, slc, tickCause_silent owes]
    exact owes
  | true =>
    refine (ev.slc_of_ne_empty ?_).trans slc
    rw [slc]
    cases slot : s.slc.slot with
    | empty => rw [tickCause_waiting owes (.inl slot)]; nofun
    | deferred mark => rw [tickCause_waiting owes (.inr ⟨mark, slot⟩)]; nofun
    | due kind => rw [tickCause_due slot, slot]; nofun
    | sending frame => rw [tickCause_sending owes slot]; exact slot ▸ nofun

/-- The next share period begins (R7). -/
def startPeriod (im : Image) (s : State) : State := { s with slc.shareTick := some (s.now + im.sharePeriod) }

theorem exec_sharePeriodTick {im : Image} {s : State} (r : s.configured = .running im) :
    exec .sharePeriodTick s = .next (tickRoster im (tickCause (startPeriod im s))) := by
  simp only [exec, execSharePeriodTick, whenRunning_running r]
  rfl

/-- The unheard count a tick leaves to the mode evaluation (R37). -/
theorem tickCount_eq {im : Image} {s : State} {roster : List Entry} {count : Nat}
    (clear : ¬unheardCondition im roster = true → count = 0)
    (other : unheardCondition im roster = true → s.prs.mode ≠ .joined → count = s.prs.unheard)
    (joined : unheardCondition im roster = true → s.prs.mode = .joined → count = min im.isolationCount (s.prs.unheard + 1)) :
    (if unheardCondition im roster then
        if s.prs.mode = .joined then satAdd im.isolationCount s.prs.unheard 1 else s.prs.unheard
      else 0) = count := by
  split
  · split
    · exact (joined ‹_› ‹_›).symm
    · exact (other ‹_› ‹_›).symm
  · exact (clear ‹_›).symm

/-- Settles O55: the SLC by `tick_slc`, the PRS by `rosterTicked_prs` and the mode evaluation that follows it. -/
theorem sharePeriodTickAgesTheRoster : Obligations.SharePeriodTickAgesTheRoster := by
  intro im s r aged owes
  have ages : ageEntry im = aged := funext (ageEntry_eq im)
  have owes_iff : announces (startPeriod im s) = true ↔ owes := announces_iff
  have stays : ¬owes → tickCause (startPeriod im s) = startPeriod im s := fun silent =>
    tickCause_silent (Bool.eq_false_iff.mpr fun k => silent (owes_iff.mp k))
  have keeps := tickCause_keeps (startPeriod im s)
  have slc := tick_slc im (startPeriod im s)
  have ev := evaluated_tick im (startPeriod im s)
  have only := rosterOnly_rosterTicked im (tickCause (startPeriod im s))
  have worked := rosterTicked_prs im (tickCause (startPeriod im s))
  have prs : (tickCause (startPeriod im s)).prs = s.prs := by rw [keeps]; rfl
  have hpt : (tickCause (startPeriod im s)).hpt = s.hpt := by rw [keeps]; rfl
  rw [prs, ages] at worked
  dsimp only at worked
  obtain ⟨roster, nEff, unseen, lEff, mismatches, peer, ack⟩ := ev.keeps_prs
  have mode := ev.lineMode
  have shared := ev.shared_from only (tickCause (startPeriod im s)).slc.slot
  have flags := ev.flags_from only
  rw [worked] at roster nEff unseen lEff mismatches peer ack mode
  rw [flagSet_of_flags (t := rosterTicked im _) (s := s) (by rw [rosterTicked_hpt, hpt])] at mode
  refine ⟨_, exec_sharePeriodTick r, ?_⟩
  generalize tickRoster im (tickCause (startPeriod im s)) = t at *
  refine ⟨?_, roster, ?_, ?_, ?_, peer, ack, mismatches, ?_, ?_, ?_, ?_, ?_, ?_, ?_, ?_, ?_⟩
  · rw [slc, keeps]; rfl
  · rw [nEff, roster]; rfl
  · rw [unseen, nEff, roster]
  · rw [lEff, roster]
  · intro frame slot
    rw [slc]
    refine ⟨tickCause_slot_of_sending slot, fun owed => ?_⟩
    rw [tickCause_sending (owes_iff.mpr owed) slot]
  · intro kind slot
    rw [slc, tickCause_due (s := startPeriod im s) slot, ← slot]; rfl
  · intro owed slot
    rw [slc, tickCause_waiting (owes_iff.mpr owed) slot]
  · rintro (silent | quiet)
    · rw [slc, stays silent]; rfl
    · rw [slc, tickCause_tickOwed (s := startPeriod im s) quiet]; rfl
  · exact fun silent => by rw [slc, stays silent]; rfl
  · intro unheard count clear other joined
    have condition : unheard ↔ unheardCondition im t.prs.roster = true := unheardCondition_iff.symm
    rw [condition, roster] at clear other joined
    refine ev.prs_again (s := s) ?_ ?_ ?_ ?_
    · rw [only.slc, keeps]; rfl
    · rw [worked]
    · rw [worked]
      exact tickCount_eq clear other joined
    · rw [worked]
  · exact mode
  · rwa [FlagsKept, hpt] at flags
  · rw [keeps] at shared
    rw [slc, keeps]
    exact shared

theorem flagSet_noteUnheard (im : Image) (s : State) (f : EventFlag) : (noteUnheard im s).flagSet f = s.flagSet f := by
  unfold noteUnheard
  split <;> rfl

/-- An announced limit that is listed raises LIMIT MISMATCH (R33). -/
theorem flagSet_noteLimit (im : Image) (limit : Nat) (s : State) (f : EventFlag) :
    (noteLimit im limit s).flagSet f = true ↔
      s.flagSet f = true ∨ (f = .limitMismatch ∧ limit ≠ im.limit ∧ limit ∉ s.prs.mismatches) := by
  unfold noteLimit
  split
  · rw [flagSet_raise]
    simp [*]
    rfl
  · simp [*]

/-- A creation that raises N_eff above its previous value and N_site raises ROSTER OVER (R30). -/
theorem flagSet_noteOver (im : Image) (before : Nat) (s : State) (f : EventFlag) :
    (noteOver im before s).flagSet f = true ↔
      s.flagSet f = true ∨ (f = .rosterOver ∧ before < s.prs.nEff ∧ im.nSite < s.prs.nEff) := by
  unfold noteOver
  split
  · rw [flagSet_raise]
    simp [*]
  · simp [*]

/-- What an accepted ANNOUNCE raises before the mode is evaluated (R30, R33). -/
theorem flagSet_announceHeard (im : Image) (id : Nat) (sequence : Byte) (c : Announced) (s : State) (f : EventFlag) :
    (announceHeard im id sequence c s).flagSet f = true ↔
      s.flagSet f = true ∨ (f = .limitMismatch ∧ c.limit ≠ im.limit ∧ c.limit ∉ s.prs.mismatches) ∨
        (f = .rosterOver ∧ entryOf s.prs.roster id = none ∧ s.prs.nEff < (announceHeard im id sequence c s).prs.nEff ∧
          im.nSite < (announceHeard im id sequence c s).prs.nEff) := by
  rw [announceHeard_prs]
  unfold announceHeard
  rw [flagSet_noteUnheard, flagSet_noteLimit]
  cases new : entryOf s.prs.roster id with
  | none =>
    rw [Option.isNone_none, if_pos rfl, flagSet_noteOver, noteOver_prs]
    simp only [true_and]
    exact or_assoc.trans (or_congr_right or_comm)
  | some e =>
    rw [Option.isNone_some, if_neg Bool.false_ne_true]
    simp only [reduceCtorEq, false_and, and_false, or_false]
    rfl

theorem flagSet_leaveHeard (im : Image) (id : Nat) (s : State) (f : EventFlag) : (leaveHeard im id s).flagSet f = s.flagSet f :=
  flagSet_noteUnheard ..

/-- The entry an accepted ANNOUNCE leaves, written out (R23 to R25). -/
theorem heardEntry_new {roster : List Entry} {id : Nat} (sequence : Byte) (c : Announced) (h : entryOf roster id = none) :
    heardEntry roster id sequence c =
      ⟨id, true, 0, 1, sequence, 0, c.claimA, c.claimB, c.granted, c.intended, c.limit, c.heard, c.mode⟩ := by
  simp only [heardEntry, h, newEntry]

theorem heardEntry_known {roster : List Entry} {id : Nat} {e : Entry} (sequence : Byte) (c : Announced)
    (h : entryOf roster id = some e) :
    heardEntry roster id sequence c =
      ⟨id, true, 0, if e.fresh then min 15 (e.freshRun + 1) else 1, sequence,
        min 255 (e.missed + ((sequence - e.lastSequence).toNat - 1)), c.claimA, c.claimB, c.granted, c.intended, c.limit,
        c.heard, c.mode⟩ := by
  have same := heardEntry_id roster id sequence c
  simp only [heardEntry, h, refreshedEntry] at same ⊢
  rw [same]
  rfl

theorem frameSequence_eq (frame : Vector Byte 21) : frameSequence frame.toList = frame[1] := by
  simp [frameSequence]

/-- What the statements say of any accepted frame of a peer: the roster `roster` with the values that follow it, from the PRS
`x` before the mode is evaluated. -/
structure PeerHeard (im : Image) (before : Prs) (roster : List Entry) (x : Prs) : Prop where
  entries : x.roster = roster
  nEff : x.nEff = effectiveCount im roster
  unseen : x.unseen = effectiveCount im roster - 1 - roster.length
  lEff : x.lEff = effectiveLimit im roster
  peerSilence : x.peerSilence = 0
  ackSilence : x.ackSilence = before.ackSilence
  mode : x.mode = before.mode
  heard : x.heardSinceEntry = (before.heardSinceEntry || decide (before.mode = .isolated))
  unheard : x.unheard = if unheardCondition im roster then before.unheard else 0

theorem beq_isolated (m : LineMode) : (m == .isolated) = decide (m = .isolated) := by
  cases m <;> decide

theorem peerHeard_announce (im : Image) (id : Nat) (sequence : Byte) (c : Announced) (s : State) :
    PeerHeard im s.prs (putEntry (heardEntry s.prs.roster id sequence c) s.prs.roster) (announceHeard im id sequence c s).prs := by
  rw [announceHeard_prs]
  exact ⟨rfl, rfl, rfl, rfl, rfl, rfl, rfl, congrArg (s.prs.heardSinceEntry || ·) (beq_isolated _), rfl⟩

theorem peerHeard_leave (im : Image) (id : Nat) (s : State) :
    PeerHeard im s.prs (dropEntry id s.prs.roster) (leaveHeard im id s).prs := by
  rw [leaveHeard_prs]
  exact ⟨rfl, rfl, rfl, rfl, rfl, rfl, rfl, congrArg (s.prs.heardSinceEntry || ·) (beq_isolated _), rfl⟩

theorem listMismatch_eq (xs : List Nat) (limit : Nat) :
    listMismatch xs limit = (if xs.length < 16 then xs else xs.tail) ++ [limit] := by
  unfold listMismatch
  split <;> rfl

/-- Settles O54: what both kinds of frame share by `PeerHeard`, then each kind's entry, list and flags. -/
theorem peerFramesChangeTheirEntry : Obligations.PeerFramesChangeTheirEntry := by
  intro im s frame leave r quiet hears good delivered
  have receives : receives s = true := receives_iff.mpr ⟨quiet, hears⟩
  have deliver : ∀ (id : Nat) (roster : List Entry) (u t : State), RosterOnly (acceptFrame s) u →
      u.flagSet .lineMode = s.flagSet .lineMode → (∀ j, j ≠ id → entryOf roster j = entryOf s.prs.roster j) →
      PeerHeard im s.prs roster u.prs → Evaluated im u t → delivered id t := by
    intro id roster u t only unraised others heard ev
    obtain ⟨rosterIs, nEff, unseen, lEff, -, peer, ack⟩ := ev.keeps_prs
    rw [heard.entries] at rosterIs
    refine ⟨fun j other => ?_, ?_, ?_, ?_, peer.trans heard.peerSilence, ack.trans heard.ackSilence, ?_, ?_,
      ev.flags_from (s := acceptFrame s) only, ev.shared_from (s := acceptFrame s) only s.slc.slot⟩
    · rw [rosterIs]; exact others j other
    · rw [nEff, heard.nEff, rosterIs]; rfl
    · rw [unseen, nEff, heard.unseen, heard.nEff, rosterIs]
    · rw [lEff, heard.lEff, rosterIs]
    · intro unheard count keeps clears
      have condition : unheard ↔ unheardCondition im roster = true := rosterIs ▸ unheardCondition_iff.symm
      rw [condition] at keeps clears
      refine ev.prs_again (s := s) (by rw [only.slc]; rfl) heard.mode ?_ heard.heard
      rw [heard.unheard]
      split
      · exact (keeps ‹_›).symm
      · exact (clears ‹_›).symm
    · rw [← unraised, ← heard.mode]
      exact ev.lineMode
  refine ⟨fun c ok content => ?_, fun ok => ?_⟩
  · intro id
    obtain ⟨check, nonzero, peer, fillers⟩ := ok
    have e := exec_announceReceived r false content
    rw [judgeFrame_of_peer receives (badFrame_eq_false check nonzero fillers) peer, frameSequence_eq] at e
    have ev : Evaluated im (announceHeard im id frame[1] c (acceptFrame s)) (deliverAnnounce im id frame[1] c (acceptFrame s)) :=
      evaluated_finishRoster ..
    have raises := flagSet_announceHeard im id frame[1] c (acceptFrame s)
    have prs := announceHeard_prs im id frame[1] c (acceptFrame s)
    obtain ⟨roster, nEff, -, -, mismatches, -, -⟩ := ev.keeps_prs
    have entry : entryOf (deliverAnnounce im id frame[1] c (acceptFrame s)).prs.roster id =
        some (heardEntry s.prs.roster id frame[1] c) := by
      rw [roster, prs]
      have same := entryOf_putEntry_same (heardEntry s.prs.roster id frame[1] c) s.prs.roster
      rwa [heardEntry_id] at same
    refine ⟨_, e, deliver id _ _ _ (rosterOnly_announceHeard ..) ?_ (fun j other => entryOf_putEntry_other _ _ ?_)
      (peerHeard_announce im id frame[1] c (acceptFrame s)) ev, ⟨?_, ?_, ?_⟩, fun new => ?_, fun old known => ?_⟩
    · rw [Bool.eq_iff_iff, raises]
      simp only [reduceCtorEq, false_and, or_false]
      rfl
    · rwa [heardEntry_id]
    · rw [mismatches, prs]
      simp only [listMismatch_eq]
      rfl
    · rw [ev.others .limitMismatch nofun nofun nofun, raises]
      simp only [reduceCtorEq, false_and, or_false, true_and]
      rfl
    · rw [ev.others .rosterOver nofun nofun nofun, raises, nEff]
      simp only [reduceCtorEq, false_and, false_or, true_and]
      rfl
    · rw [entry, heardEntry_new _ _ new]
    · rw [entry, heardEntry_known _ _ known]
  · obtain ⟨check, nonzero, peer, fillers⟩ := ok
    have e := exec_leaveReceived r leave false
    rw [judgeFrame_of_peer receives (badFrame_eq_false check nonzero fillers) peer] at e
    have ev : Evaluated im (leaveHeard im (frameId leave.toList) (acceptFrame s)) (deliverLeave im (frameId leave.toList) (acceptFrame s)) :=
      evaluated_finishRoster ..
    have unraised : ∀ f, (leaveHeard im (frameId leave.toList) (acceptFrame s)).flagSet f = s.flagSet f := flagSet_leaveHeard im _ _
    have prs := leaveHeard_prs im (frameId leave.toList) (acceptFrame s)
    obtain ⟨roster, -, -, -, mismatches, -, -⟩ := ev.keeps_prs
    refine ⟨_, e, deliver _ _ _ _ (rosterOnly_leaveHeard ..) (unraised _) (fun j other => entryOf_dropEntry_other _ other)
      (peerHeard_leave im _ (acceptFrame s)) ev, ?_, ?_, ?_, ?_⟩
    · rw [roster, prs]
      exact entryOf_dropEntry_same ..
    · rw [mismatches, prs]
      rfl
    · rw [ev.others .limitMismatch nofun nofun nofun, unraised]
    · rw [ev.others .rosterOver nofun nofun nofun, unraised]

end Sys2Proof.Machine
end

section
/-! SUPPORT. What a computation leaves at an outlet that neither dispenses nor is parked (R54 to R61, R72): no share, no target and no
pending rise. -/

namespace Sys2Proof.Machine

/-- The claimants a run serves are those it was given (R49, R52). -/
theorem mem_of_mem_rounds {n v : Nat} {cs : List Claimant} {x : Claimant × Nat} (h : x ∈ rounds n v cs) : x.1 ∈ cs := by
  induction n generalizing v cs with
  | zero =>
    obtain ⟨c, m, rfl⟩ := List.mem_map.mp h
    exact m
  | succ n ih =>
    unfold rounds at h
    dsimp only at h
    split at h
    · obtain ⟨c, m, rfl⟩ := List.mem_map.mp h
      exact m
    · rcases List.mem_append.mp h with settled | later
      · obtain ⟨c, m, rfl⟩ := List.mem_map.mp settled
        exact List.mem_of_mem_filter m
      · exact List.mem_of_mem_filter (ih later)

theorem mem_of_mem_waterFill {v : Nat} {cs : List Claimant} {x : Claimant × Nat} (h : x ∈ waterFill v cs) : x.1 ∈ cs := by
  unfold waterFill at h
  split at h
  · obtain ⟨c, m, rfl⟩ := List.mem_map.mp h
    exact m
  · exact mem_of_mem_rounds h

/-- An outlet that is no claimant has no share (R60). -/
theorem shareOf_waterFill_of_absent {o : Outlet} {v : Nat} {cs : List Claimant} (h : ∀ c ∈ cs, c.own ≠ some o) :
    shareOf o (waterFill v cs) = 0 := by
  have none : (waterFill v cs).find? (fun x => x.1.own == some o) = none := by
    rw [List.find?_eq_none]
    intro x m
    simpa using h x.1 (mem_of_mem_waterFill m)
  rw [shareOf, none]

/-- The outlet is in no state that claims (R54, R64). -/
def Claimless (u : OutletState) : Prop := u.osc.state ≠ .dispensing ∧ u.osc.state ≠ .parked

section
variable {im : Image} {s : State} {o : Outlet} (h : Claimless (s.out o))
include h

theorem rawDemand_of_claimless : rawDemand im s o = 0 := by
  obtain ⟨dispensing, parked⟩ := h
  unfold rawDemand
  split
  · split <;> simp_all
  · rfl

theorem splitDemand_of_claimless : splitDemand im s none o = 0 := by
  refine shareOf_waterFill_of_absent fun c m own => ?_
  obtain ⟨x, -, e⟩ := List.mem_filterMap.mp m
  split at e
  · rename_i claiming
    obtain rfl := Option.some.inj e
    obtain rfl := Option.some.inj own
    rw [rawDemand_of_claimless h] at claiming
    simp at claiming
  · nomatch e

theorem siteShare_of_claimless : siteShare im s none o = 0 := by
  have own : ∀ c ∈ ownClaimants im s none, c.own ≠ some o := fun c m own => by
    obtain ⟨x, -, e⟩ := List.mem_filterMap.mp m
    dsimp only at e
    split at e
    · rename_i claiming
      obtain rfl := Option.some.inj e
      obtain rfl := Option.some.inj own
      rw [splitDemand_of_claimless h] at claiming
      exact absurd claiming (by decide)
    · nomatch e
  have peers : ∀ c ∈ peerClaimants s, c.own ≠ some o := fun c m => by
    obtain ⟨e, -, m⟩ := List.mem_flatMap.mp m
    have peer : ∀ x : Claim, c ∈ (peerClaimant x).toList → c.own ≠ some o := fun x m => by
      unfold peerClaimant at m
      split at m
      · obtain rfl := List.mem_singleton.mp m
        nofun
      · nomatch m
    exact (List.mem_append.mp m).elim (peer _) (peer _)
  refine shareOf_waterFill_of_absent fun c m => ?_
  unfold siteClaimants at m
  split at m
  · exact (List.mem_append.mp m).elim (own c) (peers c)
  · exact own c m
  · exact own c m

theorem shareResult_of_claimless : shareResult im s o = ⟨0, 0, 0, none⟩ := by
  have none : hypotheticalShare im s o = none := by simp [hypotheticalShare, h.2]
  rw [shareResult, rawDemand_of_claimless h, splitDemand_of_claimless h, siteShare_of_claimless h, none]

end

/-- The outlet with no share, no target and no pending rise. -/
def shareless (u : OutletState) : OutletState :=
  { u with share := ⟨0, 0, 0, none⟩, grl := { u.grl with target := 0, pending := none } }

theorem otherOutlet_other (o : Outlet) : otherOutlet (otherOutlet o) = o := by cases o <;> rfl

theorem out_setSession_other (o : Outlet) (x : Session) (s : State) :
    (setSession o x s).out (otherOutlet o) = s.out (otherOutlet o) := out_modOut_other s o _

theorem out_decrease_other (im : Image) (o : Outlet) (n : Nat) (s : State) :
    (decrease im o n s).out (otherOutlet o) = s.out (otherOutlet o) := out_modOut_other s o _

theorem out_park_other (im : Image) (o : Outlet) (s : State) : (park im o s).out (otherOutlet o) = s.out (otherOutlet o) := by
  unfold park
  dsimp only
  rw [out_modOut_other]
  split
  · rw [out_decrease_other, out_setSession_other]
  · exact out_setSession_other o .parked s

/-- A hand-over at one outlet leaves the other as it is (R72). -/
theorem out_handOverAt_other (im : Image) (o : Outlet) (s : State) :
    (handOverAt im o s).out (otherOutlet o) = s.out (otherOutlet o) := by
  have target := out_modOut_other s o fun u => { u with grl.target := (s.out o).share.target }
  unfold handOverAt
  split
  · dsimp only
    split
    · split
      · rw [out_park_other, target]
      split
      · rw [out_decrease_other, target]
      split <;> rw [setPending, out_modOut_other, target]
    · split
      · rw [resume, out_modOut_other, out_setSession_other, target]
      · exact target
    all_goals rw [setPending, out_modOut_other, target]
  · rfl

/-- At an outlet that does not claim, a hand-over takes the target and clears a pending rise (R72). -/
theorem out_handOverAt_of_claimless {im : Image} {s : State} {o : Outlet} (fits : fitted im o = true) (h : Claimless (s.out o)) :
    (handOverAt im o s).out o = { s.out o with grl := { (s.out o).grl with target := (s.out o).share.target, pending := none } } := by
  have state : ((s.modOut o fun u => { u with grl.target := (s.out o).share.target }).out o).osc.state = (s.out o).osc.state := by
    rw [out_modOut]
  obtain ⟨dispensing, parked⟩ := h
  unfold handOverAt
  rw [if_pos fits]
  dsimp only
  split
  · exact absurd (state.symm.trans ‹_›) dispensing
  · exact absurd (state.symm.trans ‹_›) parked
  all_goals rw [setPending, out_modOut, out_modOut]

theorem out_holdRises (im : Image) (s : State) (o : Outlet) : (holdRises im s).out o = s.out o := by
  unfold holdRises settleRises
  split
  · cases o <;> rfl
  split
  · cases o <;> rfl
  · rfl

theorem out_compute (im : Image) (s : State) (o : Outlet) :
    (compute im s).out o = { s.out o with share := shareResult im s o } := by cases o <;> rfl

theorem out_noteUpdate (im : Image) (before : Announced) (s : State) (o : Outlet) : (noteUpdate im before s).out o = s.out o := by
  unfold noteUpdate
  split
  · cases o <;> rfl
  · rfl

/-- A hand-over is one at each outlet, from its own values (R72). -/
theorem out_handOver_of_claimless {im : Image} {s : State} {o : Outlet} (fits : fitted im o = true) (h : Claimless (s.out o)) :
    (handOver im s).out o = { s.out o with grl := { (s.out o).grl with target := (s.out o).share.target, pending := none } } := by
  rw [handOver, out_holdRises]
  cases o with
  | a => exact (out_handOverAt_other im .b _).trans (out_handOverAt_of_claimless fits h)
  | b =>
    have before := out_handOverAt_other im .a s
    refine (out_handOverAt_of_claimless fits ?_).trans ?_
    · rw [show (handOverAt im .a s).out .b = s.out .b from before]; exact h
    · rw [show (handOverAt im .a s).out .b = s.out .b from before]

theorem out_computeOnce_of_claimless {im : Image} {s : State} {o : Outlet} (fits : fitted im o = true) (h : Claimless (s.out o)) :
    (computeOnce im s).out o = shareless (s.out o) := by
  have claimless : Claimless ((compute im s).out o) := by rw [out_compute]; exact h
  rw [computeOnce, noted, out_noteUpdate, out_handOver_of_claimless fits claimless, out_compute, shareResult_of_claimless h]
  rfl

theorem out_computations_of_claimless {im : Image} {o : Outlet} (fits : fitted im o = true) (n : Nat) {s : State}
    (h : Claimless (s.out o)) : (computations im (n + 1) s).out o = shareless (s.out o) := by
  induction n generalizing s with
  | zero =>
    unfold computations
    dsimp only
    split
    · exact out_computeOnce_of_claimless fits h
    · exact out_computeOnce_of_claimless fits h
  | succ n ih =>
    have once := out_computeOnce_of_claimless fits h
    unfold computations
    dsimp only
    split
    · exact once
    · rw [ih (by rw [once]; exact h), once]
      rfl

theorem out_computation_of_claimless {im : Image} {s : State} {o : Outlet} (fits : fitted im o = true) (h : Claimless (s.out o)) :
    (computation im s).out o = shareless (s.out o) := out_computations_of_claimless fits 4 h

end Sys2Proof.Machine
end

section
/-! SUPPORT. The completion of a close (R115, R116): from `completeClose` and the computation it triggers to `CloseCompleted`. -/

namespace Sys2Proof.Machine

theorem FlagsKept.flagSet {s t : State} (h : FlagsKept s t) {f : EventFlag} (set : s.flagSet f = true) : t.flagSet f = true := by
  unfold FlagsKept at h
  rw [State.flagSet, ← h, BitVec.getLsbD_and, Bool.and_eq_true] at set
  exact set.2

theorem flagSet_raise_same (f : EventFlag) (s : State) : (raise f s).flagSet f = true := by
  rw [flagSet_raise, decide_eq_true rfl, Bool.or_true]

theorem flagSet_setSession_same (o : Outlet) (x : Session) (s : State) : (setSession o x s).flagSet (changeFlag o) = true :=
  flagSet_raise_same (changeFlag o) _

theorem flagsKept_setSession (o : Outlet) (x : Session) (s : State) : FlagsKept s (setSession o x s) := (eventAt_setSession o x s).2.2.2

/-- What an entry into the queue raises (R174). -/
theorem flagSet_enterQueue (r : Record) (s : State) :
    (s.stu.queue = [] → (enterQueue r s).flagSet .recordReady = true) ∧
      (s.stu.queue.length = 7 → (enterQueue r s).flagSet .queueFull = true) := by
  unfold enterQueue
  dsimp only
  refine ⟨fun empty => ?_, fun seven => ?_⟩
  · rw [if_pos (List.isEmpty_iff.mpr empty)]
    split
    · exact (flagsKept_raise .queueFull _).flagSet (flagSet_raise_same .recordReady _)
    · exact flagSet_raise_same .recordReady _
  · rw [if_pos]
    · exact flagSet_raise_same .queueFull _
    · split <;> simp [seven, queueLimit]

theorem EventAt.with_order {o : Outlet} {s t : State} (h : EventAt o s t) (xs : List Outlet) :
    EventAt o { s with grl.order := xs } { t with grl.order := xs } := by
  obtain ⟨keeps, other, parks, flags⟩ := h
  refine ⟨?_, ?_, ?_, flags⟩
  · conv_lhs => rw [keeps]
  · cases o <;> exact other
  · cases o <;> exact parks

theorem eventAt_enterQueue (o : Outlet) (r : Record) (s : State) :
    EventAt o { s with stu := ⟨s.stu.queue ++ [{ r with sequence := s.stu.counter }], s.stu.counter + 1, s.stu.settleWait⟩ }
      (enterQueue r s) := by
  have flags := enterQueue_flags r s
  rw [enterQueue_keeps] at flags ⊢
  cases o <;> exact ⟨rfl, rfl, .refl _, flags⟩

/-- The outlet with no grant and no timer of one (R87). -/
def grantless (u : OutletState) : OutletState :=
  { u with
    grl.target := 0, grl.commanded := 0, grl.inEffect := 0, grl.pending := none, grl.unconfirmed := false,
    grl.confirmTimer := none, grl.parkHold := .stopped }

theorem clearGrants_eq (o : Outlet) (s : State) :
    clearGrants o s = settleRises (State.modOut { s with grl.order := s.grl.order.filter fun x => x != o } o grantless) := by
  cases o <;> rfl

theorem eventAt_clearGrants (o : Outlet) (s : State) :
    EventAt o { s with grl.order := s.grl.order.filter fun x => x != o } (clearGrants o s) := by
  rw [clearGrants_eq]
  exact (eventAt_own o grantless _).trans (eventAt_settleRises o _)

/-- The close's own values at its outlet (R116, R135, R138): no phase, no timer, no binding and no capture. -/
def closedAccounts (r : Record) (u : OutletState) : OutletState :=
  { u with
    acc := capAccounts r u.acc
    osc.header.binding := none
    osc.closePhase := none
    osc.closeTimer := none
    tru.binding := none
    mtf.capture := .off
    mtf.overDraw := 0 }

/-- The record enters the queue, or is held in SETTLE_WAIT while the queue is full (R116, R117). -/
def settleRecord (o : Outlet) (r : Record) (s : State) : State :=
  if s.stu.queue.length < 8 then setSession o .idle (enterQueue r s)
  else
    setSession o .settleWait
      { s.modOut o (fun u => { u with heldRecord := some r }) with stu.settleWait := s.stu.settleWait ++ [o] }

theorem completeClose_eq (o : Outlet) (s : State) :
    completeClose o s =
      clearGrants o (settleRecord o (buildRecord o (s.out o)) (s.modOut o (closedAccounts (buildRecord o (s.out o))))) := rfl

theorem eventAt_settleRecord (o : Outlet) (r : Record) (s : State) :
    EventAt o
      { s with
        stu :=
          if s.stu.queue.length < 8 then
            ⟨s.stu.queue ++ [{ r with sequence := s.stu.counter }], s.stu.counter + 1, s.stu.settleWait⟩
          else { s.stu with settleWait := s.stu.settleWait ++ [o] } }
      (settleRecord o r s) := by
  unfold settleRecord
  split
  · exact (eventAt_enterQueue o r s).trans (eventAt_setSession o .idle _)
  · cases o <;> exact (eventAt_own _ (fun u => { u with heldRecord := some r }) _).trans (eventAt_setSession _ .settleWait _)

theorem out_enterQueue (r : Record) (s : State) (o : Outlet) : (enterQueue r s).out o = s.out o := by
  rw [enterQueue_keeps]
  cases o <;> rfl

theorem out_settleRecord (o : Outlet) (r : Record) (s : State) :
    (settleRecord o r s).out o =
      { s.out o with
        osc := { (s.out o).osc with state := if s.stu.queue.length < 8 then .idle else .settleWait }
        heldRecord := if s.stu.queue.length < 8 then (s.out o).heldRecord else some r } := by
  have out_setSession : ∀ (x : Session) (u : State),
      (setSession o x u).out o = { u.out o with osc := { (u.out o).osc with state := x } } := fun x u => out_modOut u o _
  unfold settleRecord
  split
  · rw [out_setSession, out_enterQueue]
  · rw [out_setSession]
    cases o <;> rfl

theorem flagSet_settleRecord (o : Outlet) (r : Record) (s : State) :
    (settleRecord o r s).flagSet (changeFlag o) = true ∧
      (s.stu.queue = [] → (settleRecord o r s).flagSet .recordReady = true) ∧
      (s.stu.queue.length = 7 → (settleRecord o r s).flagSet .queueFull = true) := by
  obtain ⟨ready, full⟩ := flagSet_enterQueue r s
  unfold settleRecord
  split
  · have kept := flagsKept_setSession o .idle (enterQueue r s)
    exact ⟨flagSet_setSession_same .., fun empty => kept.flagSet (ready empty), fun seven => kept.flagSet (full seven)⟩
  · rename_i long
    refine ⟨flagSet_setSession_same .., fun empty => absurd ?_ long, fun seven => absurd ?_ long⟩
    · rw [empty]; decide
    · omega

theorem clearGrants_hpt (o : Outlet) (s : State) : (clearGrants o s).hpt = s.hpt := by
  rw [(clearGrants_keeps o s).1]

/-- A completed close with the computation it triggers (R46, R115 to R117). -/
theorem closeCompleted_of_shared {o : Outlet} {s t : State} (h : Shared (completeClose o s) t)
    (own : t.out o = shareless ((completeClose o s).out o)) : CloseCompleted o (buildRecord o (s.out o)) s t := by
  rw [completeClose_eq] at h own
  generalize buildRecord o (s.out o) = r at *
  have raised := flagSet_settleRecord o r (s.modOut o (closedAccounts r))
  have event := eventAt_settleRecord o r (s.modOut o (closedAccounts r))
  have out := out_settleRecord o r (s.modOut o (closedAccounts r))
  have kept : FlagsKept (settleRecord o r (s.modOut o (closedAccounts r))) t := by
    have flags := h.2.2.2
    rwa [FlagsKept, clearGrants_hpt] at flags
  have order : (settleRecord o r (s.modOut o (closedAccounts r))).grl.order = s.grl.order := by
    rw [event.1, modOut_grl]
  have cleared := eventAt_clearGrants o (settleRecord o r (s.modOut o (closedAccounts r)))
  rw [modOut_stu] at *
  refine ⟨?_, kept.flagSet raised.1, fun empty => kept.flagSet (raised.2.1 empty), fun seven => kept.flagSet (raised.2.2 seven), ?_⟩
  · rw [order] at cleared
    refine .trans ?_ ((event.with_order (s.grl.order.filter fun x => x != o)).trans (cleared.trans (h.eventAt o)))
    cases o <;> exact eventAt_own _ (closedAccounts r) _
  · rw [own, clearGrants_out, out, out_modOut]
    rfl

end Sys2Proof.Machine
end

section
/-! PROOF. A confirmation (R74, R77, R85, R113). -/

namespace Sys2Proof.Machine

/-- Only the transmit slot may differ (R8). -/
def ButSlot (s t : State) : Prop := t = { s with slc.slot := t.slc.slot }

theorem ButSlot.refl (s : State) : ButSlot s s := rfl

theorem ButSlot.trans {s t u : State} (h : ButSlot s t) (k : ButSlot t u) : ButSlot s u := by
  unfold ButSlot at *
  rw [k, h]

theorem ButSlot.out {s t : State} (h : ButSlot s t) (o : Outlet) : t.out o = s.out o := by
  rw [h]
  cases o <;> rfl

theorem ButSlot.announced {s t : State} (h : ButSlot s t) (im : Image) : announced im t = announced im s := by
  rw [h]
  rfl

theorem ButSlot.sessions {s t : State} (h : ButSlot s t) : sessions t = sessions s := by
  rw [h]
  rfl

theorem butSlot_noteUpdate (im : Image) (before : Announced) (s : State) : ButSlot s (noteUpdate im before s) := by
  rcases noteUpdate_cases im before s with same | ⟨-, -, -, -, moved⟩
  · rw [same]; exact .refl s
  · rw [moved]; rfl

theorem ButSlot.modOut {s t : State} (h : ButSlot s t) (o : Outlet) (f : OutletState → OutletState) :
    ButSlot (s.modOut o f) (t.modOut o f) := by
  unfold ButSlot at *
  rw [h]
  cases o <;> rfl

/-- The rises served do not depend on the line. -/
theorem serveRises_slc (im : Image) (x : Slc) (xs : List Outlet) (n : Nat) (s : State) :
    serveRises im xs n { s with slc := x } = { serveRises im xs n s with slc := x } := by
  induction xs generalizing n s with
  | nil => rfl
  | cons o xs ih =>
    have out : ({ s with slc := x } : State).out o = s.out o := by cases o <;> rfl
    have raised : ∀ k, raiseBy o k { s with slc := x } = { raiseBy o k s with slc := x } := fun k => by cases o <;> rfl
    unfold serveRises
    rw [out]
    split
    · exact ih n s
    · dsimp only
      split
      · rw [raised, ih]
      · exact ih n s

theorem ButSlot.evaluateRises {s t : State} (h : ButSlot s t) (im : Image) : ButSlot (evaluateRises im s) (evaluateRises im t) := by
  have slc : ∀ x, Machine.evaluateRises im { s with slc := x } = { Machine.evaluateRises im s with slc := x } := fun x => by
    unfold Machine.evaluateRises
    rw [show serveRises im s.grl.order (allowance im { s with slc := x }) { s with slc := x } = _ from serveRises_slc im x _ _ s]
    rfl
  unfold ButSlot at *
  rw [h, slc, (beside_evaluateRises im s).slc]

/-- Every outlet's session, its recognised FEEDBACK and its unconfirmed decrease are as they were. -/
def SessionsKept (s t : State) : Prop :=
  ∀ o, (t.out o).osc = (s.out o).osc ∧ (t.out o).feedback = (s.out o).feedback ∧
    (t.out o).grl.unconfirmed = (s.out o).grl.unconfirmed

theorem SessionsKept.refl (s : State) : SessionsKept s s := fun _ => ⟨rfl, rfl, rfl⟩

theorem SessionsKept.trans {s t u : State} (h : SessionsKept s t) (k : SessionsKept t u) : SessionsKept s u := fun o => by
  obtain ⟨osc, feedback, unconfirmed⟩ := h o
  obtain ⟨osc', feedback', unconfirmed'⟩ := k o
  exact ⟨osc'.trans osc, feedback'.trans feedback, unconfirmed'.trans unconfirmed⟩

theorem SessionsKept.sessions {s t : State} (h : SessionsKept s t) : sessions t = sessions s := by
  rw [Machine.sessions, Machine.sessions, ← out_a t, ← out_b t, (h .a).1, (h .b).1]
  rfl

theorem sessionsKept_raiseBy (x : Outlet) (n : Nat) (s : State) : SessionsKept s (raiseBy x n s) := by
  intro o
  cases x <;> cases o <;> refine ⟨rfl, rfl, ?_⟩
  · exact sendWord_unconfirmed _
  · rfl
  · rfl
  · exact sendWord_unconfirmed _

theorem sessionsKept_serveRises (im : Image) (xs : List Outlet) (n : Nat) (s : State) : SessionsKept s (serveRises im xs n s) := by
  induction xs generalizing n s with
  | nil => exact .refl s
  | cons x xs ih =>
    unfold serveRises
    split
    · exact ih n s
    · dsimp only
      split
      · exact (sessionsKept_raiseBy x _ s).trans (ih _ _)
      · exact ih n s

/-- A rise evaluation ends no session and no decrease (R78). -/
theorem sessionsKept_evaluateRises (im : Image) (s : State) : SessionsKept s (evaluateRises im s) :=
  (sessionsKept_serveRises im _ _ s).trans fun o => by cases o <;> exact ⟨rfl, rfl, rfl⟩

/-- The rises that wait for the last unconfirmed decrease, with none left at `o` (R77). -/
def released (im : Image) (o : Outlet) (s : State) : State :=
  if s.grl.riseWaiting = true ∧ (s.out (otherOutlet o)).grl.unconfirmed = false then evaluateRises im s else s

theorem sessionsKept_released (im : Image) (o : Outlet) (s : State) : SessionsKept s (released im o s) := by
  unfold released
  split
  · exact sessionsKept_evaluateRises im s
  · exact .refl s

theorem noneUnconfirmed_iff {s : State} {o : Outlet} (h : (s.out o).grl.unconfirmed = false) :
    noneUnconfirmed s = true ↔ (s.out (otherOutlet o)).grl.unconfirmed = false := by
  cases o <;> simp_all [noneUnconfirmed, otherOutlet]

/-- The released rises are one update (R78). -/
theorem releaseRises_eq {im : Image} {s : State} {o : Outlet} (h : (s.out o).grl.unconfirmed = false) :
    releaseRises im s = noteUpdate im (announced im s) (released im o s) := by
  unfold releaseRises released
  simp only [Bool.and_eq_true, noneUnconfirmed_iff h]
  split
  · rfl
  · exact (noteUpdate_same im _ s rfl).symm

theorem ButSlot.released {s t : State} (h : ButSlot s t) (im : Image) (o : Outlet) :
    ButSlot (released im o s) (released im o t) := by
  have waiting : t.grl.riseWaiting = s.grl.riseWaiting := by rw [h]
  unfold Machine.released
  rw [waiting, h.out]
  split
  · exact h.evaluateRises im
  · exact h

theorem released_slc (im : Image) (o : Outlet) (s : State) : (released im o s).slc = s.slc ∧ (released im o s).now = s.now := by
  unfold released
  split
  · exact ⟨(beside_evaluateRises im s).slc, (beside_evaluateRises im s).now⟩
  · exact ⟨rfl, rfl⟩

theorem outputDown_iff {u : OutletState} :
    outputDown u = true ↔
      u.osc.state = .closing ∧ u.osc.closePhase = some .outputWait ∧ u.grl.commanded = 0 ∧ u.grl.unconfirmed = false := by
  simp only [outputDown, Bool.and_eq_true, beq_iff_eq, Bool.not_eq_true', and_assoc]

/-- OPEN WAIT at its outlet (R113). -/
def waitsOpen (im : Image) (now : Nat) (u : OutletState) : OutletState :=
  { u with
    osc := { u.osc with
      closePhase := some .openWait, driveClosed := false, mismatchTimer := none, closeTimer := some (now + im.confirmTimeout) } }

theorem beginOpenWait_closed {im : Image} {o : Outlet} {s : State} (h : (s.out o).feedback.level = true) :
    beginOpenWait im o s = s.modOut o (waitsOpen im s.now) := by
  unfold beginOpenWait
  dsimp only
  rw [if_pos]
  · rfl
  · rw [out_modOut]; exact h

theorem beginOpenWait_open {im : Image} {o : Outlet} {s : State} (h : (s.out o).feedback.level = false) :
    beginOpenWait im o s = completeClose o (s.modOut o (waitsOpen im s.now)) := by
  unfold beginOpenWait
  dsimp only
  rw [if_neg]
  · rfl
  · rw [out_modOut]; exact Bool.eq_false_iff.mp h

theorem noteUpdate_none {im : Image} {before : Announced} {s : State}
    (h : ¬(announced im s ≠ before ∧ s.slc.reference ≠ some (announced im s))) : noteUpdate im before s = s := by
  unfold noteUpdate
  rw [if_neg]
  exact fun ⟨a, b, _⟩ => h ⟨a, b⟩

theorem announced_waitsOpen (im : Image) (o : Outlet) (now : Nat) (s : State) :
    announced im (s.modOut o (waitsOpen im now)) = announced im s := (quiet_modOut s o (waitsOpen im now) rfl).2 im

theorem sessions_modOut {s : State} {o : Outlet} {f : OutletState → OutletState} (h : (f (s.out o)).osc.state = (s.out o).osc.state) :
    sessions (s.modOut o f) = sessions s := by
  cases o <;> simp_all [sessions]

/-- A completed close is a change of session (R116). -/
theorem out_completeClose_state (o : Outlet) (s : State) :
    ((completeClose o s).out o).osc.state = if s.stu.queue.length < 8 then .idle else .settleWait := by
  rw [completeClose_eq, clearGrants_out, out_settleRecord, out_modOut, modOut_stu]

theorem claimless_completeClose (o : Outlet) (s : State) : Claimless ((completeClose o s).out o) := by
  unfold Claimless
  rw [out_completeClose_state]
  split <;> exact ⟨nofun, nofun⟩

theorem CloseCompleted.of_butSlot {o : Outlet} {s t u : State} (slot : ButSlot s t)
    (h : CloseCompleted o (buildRecord o (t.out o)) t u) : CloseCompleted o (buildRecord o (s.out o)) s u := by
  rw [slot.out] at h
  rw [slot] at h
  obtain ⟨event, change, ready, full, out⟩ := h
  refine ⟨?_, change, ready, full, ?_⟩
  · refine .trans ?_ event
    cases o <;> exact ⟨rfl, rfl, .refl _, .refl _⟩
  · cases o <;> exact out

/-- The confirmed outlet with its lowered grant (R74), before any rise is released. -/
def lowered (o : Outlet) (s : State) : State := lowerGrant o (s.modOut o settledHigh)

theorem lowered_keeps (o : Outlet) (s : State) :
    (lowered o s).slc = s.slc ∧ (lowered o s).now = s.now ∧ (lowered o s).grl = s.grl ∧
      (lowered o s).out (otherOutlet o) = s.out (otherOutlet o) := by
  simp only [lowered, lowerGrant, modOut_slc, modOut_now, modOut_grl, out_modOut_other, and_self]

theorem out_lowered (o : Outlet) (s : State) :
    ((lowered o s).out o).osc = (s.out o).osc ∧ ((lowered o s).out o).feedback = (s.out o).feedback ∧
      ((lowered o s).out o).grl.unconfirmed = false := by
  rw [lowered, lowerGrant, out_modOut, out_modOut]
  exact ⟨rfl, rfl, rfl⟩

theorem sessions_lowered (o : Outlet) (s : State) : sessions (lowered o s) = sessions s := by
  rw [lowered, lowerGrant, sessions_modOut rfl, sessions_modOut rfl]

theorem confirmed_lowerGrant (im : Image) (o : Outlet) (s : State) :
    ((noted im (lowerGrant o) (s.modOut o settledHigh)).out o).grl.unconfirmed = false := by
  rw [noted, out_noteUpdate]
  exact (out_lowered o s).2.2

theorem confirmDecrease_butSlot (im : Image) (o : Outlet) (s : State) :
    ButSlot (released im o (lowered o s)) (confirmDecrease im o (s.modOut o settledHigh)) := by
  have lower : ButSlot (lowered o s) (noted im (lowerGrant o) (s.modOut o settledHigh)) := butSlot_noteUpdate im _ _
  rw [confirmDecrease, releaseRises_eq (confirmed_lowerGrant im o s)]
  exact (lower.released im o).trans (butSlot_noteUpdate im _ _)

theorem exec_confirmation {im : Image} {s : State} {o : Outlet} (r : s.configured = .running im) (fits : fitted im o = true)
    (low : (s.out o).settled.level = false) :
    exec (.confirmation o) s =
      .next (if confirms (s.out o).grl then
          outletEvent im s (reportOutput im o (confirmDecrease im o (s.modOut o settledHigh)))
        else s.modOut o settledHigh) := by
  simp only [exec, execConfirmation, whenFitted, whenRunning_running r, fits, low, if_true, Bool.false_eq_true, if_false]

theorem confirms_iff {g : Grl} : confirms g = true ↔ g.unconfirmed = true ∧ g.word = none ∧ g.earlierRise = false := by
  simp only [confirms, Bool.and_eq_true, Option.isNone_iff_eq_none, Bool.not_eq_true', and_assoc]

/-- Two effects of an event, each with its update: either owes the ANNOUNCE, and what follows leaves it owed (R8). -/
theorem slot_of_updates {im : Image} {s v w t : State} (first : Noted im s v) (second : Noted im v w) (rest : SlotMoved im w t)
    (empty : s.slc.slot = .empty) (announcing : announces s = true)
    (update : (announced im v ≠ announced im s ∧ s.slc.reference ≠ some (announced im v)) ∨
      (announced im w ≠ announced im v ∧ s.slc.reference ≠ some (announced im w))) : t.slc.slot = slotAtUpdate im s := by
  have moved : w.slc.slot = slotAtUpdate im s := by
    have early : v.slc.slot = slotAtUpdate im s → w.slc.slot = slotAtUpdate im s := fun owed =>
      (second.slot_of_ne_empty (owed ▸ slotAtUpdate_ne_empty im s)).trans owed
    rcases update with ⟨differs, new⟩ | ⟨differs, new⟩
    · exact early (first.owed empty announcing differs new)
    · rcases first.slot with same | ⟨-, -, owed⟩
      · rw [second.owed (same.trans empty) (first.announces.trans announcing) differs (first.reference ▸ new), first.slotAtUpdate]
      · exact early owed
  exact (rest.slot_of_ne_empty (moved ▸ slotAtUpdate_ne_empty im s)).trans moved

section
variable {im : Image} {s w : State} {o : Outlet}

theorem reportOutput_up (up : ¬outputDown (w.out o) = true) : reportOutput im o w = w := if_neg up

theorem reportOutput_down (down : outputDown (w.out o) = true) : reportOutput im o w = noted im (beginOpenWait im o) w := if_pos down

/-- With the contactor still recognised closed OPEN WAIT lasts, and neither it nor a session changes an announced value (R113). -/
theorem reportOutput_closed (down : outputDown (w.out o) = true) (closed : (w.out o).feedback.level = true) :
    reportOutput im o w = w.modOut o (waitsOpen im w.now) := by
  rw [reportOutput_down down, noted, beginOpenWait_closed closed, noteUpdate_same im _ _ (announced_waitsOpen im o w.now w)]

theorem outletEvent_of_sessions {t : State} (same : sessions t = sessions s) :
    outletEvent im s t = noteUpdate im (announced im s) t := if_pos same

/-- With the contactor recognised open the close completes, which changes a session and so triggers a computation (R46, R114). -/
theorem closeCompleted_outletEvent (fits : fitted im o = true) (same : sessions w = sessions s) (down : outputDown (w.out o) = true)
    (opened : (w.out o).feedback.level = false) :
    CloseCompleted o (buildRecord o ((w.modOut o (waitsOpen im w.now)).out o)) (w.modOut o (waitsOpen im w.now))
      (outletEvent im s (reportOutput im o w)) := by
  rw [reportOutput_down down, noted, beginOpenWait_open opened]
  generalize w.modOut o (waitsOpen im w.now) = x
  have claimless := claimless_completeClose o x
  have changed : sessions (noteUpdate im (announced im w) (completeClose o x)) ≠ sessions s := by
    intro h
    have closing := (outputDown_iff.mp down).1
    have state : ((completeClose o x).out o).osc.state = .closing := by
      rw [← out_noteUpdate im (announced im w)]
      rw [← same] at h
      rw [← closing]
      cases o with
      | a => exact congrArg Prod.fst h
      | b => exact congrArg Prod.snd h
    rw [out_completeClose_state] at state
    split at state <;> nomatch state
  rw [outletEvent, if_neg changed, triggered]
  refine closeCompleted_of_shared ?_ ?_
  · exact ((shared_noteUpdate im _ _).trans (shared_noteUpdate im _ _)).trans (shared_computation im _)
  · rw [out_computation_of_claimless fits]
    · rw [out_noteUpdate, out_noteUpdate]
    · rw [out_noteUpdate, out_noteUpdate]
      exact claimless

theorem butSlot_outletEvent_up (same : sessions w = sessions s) (up : ¬outputDown (w.out o) = true) :
    ButSlot w (outletEvent im s (reportOutput im o w)) := by
  rw [reportOutput_up up, outletEvent_of_sessions same]
  exact butSlot_noteUpdate im _ w

theorem butSlot_outletEvent_closed (same : sessions w = sessions s) (down : outputDown (w.out o) = true)
    (closed : (w.out o).feedback.level = true) :
    ButSlot (w.modOut o (waitsOpen im w.now)) (outletEvent im s (reportOutput im o w)) := by
  rw [reportOutput_closed down closed, outletEvent_of_sessions ((sessions_modOut rfl).trans same)]
  exact butSlot_noteUpdate im _ _

/-- Where neither effect was an update, the event's end is none (R8, log 16). -/
theorem outletEvent_slc (same : sessions w = sessions s) (stays : ¬outputDown (w.out o) = true ∨ (w.out o).feedback.level = true)
    (none : ¬(announced im w ≠ announced im s ∧ w.slc.reference ≠ some (announced im w))) :
    (outletEvent im s (reportOutput im o w)).slc = w.slc := by
  by_cases down : outputDown (w.out o) = true
  · have closed := stays.resolve_left (not_not_intro down)
    rw [reportOutput_closed down closed, outletEvent_of_sessions ((sessions_modOut rfl).trans same), noteUpdate_none, modOut_slc]
    rwa [announced_waitsOpen, modOut_slc]
  · rw [reportOutput_up down, outletEvent_of_sessions same, noteUpdate_none none]

end

theorem confirmDecrease_eq_released {im : Image} {o : Outlet} {s : State}
    (first : ¬(announced im (lowered o s) ≠ announced im s ∧ s.slc.reference ≠ some (announced im (lowered o s))))
    (second : ¬(announced im (released im o (lowered o s)) ≠ announced im (lowered o s) ∧
      s.slc.reference ≠ some (announced im (released im o (lowered o s))))) :
    confirmDecrease im o (s.modOut o settledHigh) = released im o (lowered o s) := by
  have quiet : announced im (s.modOut o settledHigh) = announced im s := (quiet_modOut s o settledHigh rfl).2 im
  have slc := (lowered_keeps o s).1
  have once : noted im (lowerGrant o) (s.modOut o settledHigh) = lowered o s := by
    refine noteUpdate_none ?_
    rw [quiet]
    exact slc ▸ first
  rw [confirmDecrease, once, releaseRises_eq (out_lowered o s).2.2, noteUpdate_none]
  rwa [(released_slc im o _).1, slc]

theorem noted_lowerGrant (im : Image) (o : Outlet) (s : State) :
    Noted im s (noted im (lowerGrant o) (s.modOut o settledHigh)) :=
  ((quiet_modOut s o settledHigh rfl).follows im).2.trans (noted_noted ((beside_modOut _ o _).moved im))

theorem noted_releaseRises (im : Image) (o : Outlet) (s : State) :
    Noted im (noted im (lowerGrant o) (s.modOut o settledHigh)) (confirmDecrease im o (s.modOut o settledHigh)) := by
  obtain ⟨slc, now⟩ := released_slc im o (noted im (lowerGrant o) (s.modOut o settledHigh))
  rw [confirmDecrease, releaseRises_eq (confirmed_lowerGrant im o s)]
  exact (SlotMoved.of_slc now slc).noteUpdate

theorem moved_outletEvent (im : Image) (before after : State) : SlotMoved im after (outletEvent im before after) := by
  unfold outletEvent
  split
  · exact moved_noteUpdate im _ after
  · exact (moved_noteUpdate im _ after).trans (noted_computation im _).toSlotMoved

/-- Settles O41: the outlets by `released` but for the slot, the slot by `slot_of_updates`, a completed close by
`closeCompleted_outletEvent`. -/
theorem confirmationLowersTheGrant : Obligations.ConfirmationLowersTheGrant := by
  intro im s o r fits low g u v w down x quarter owed silent updates
  have wIs : released im o (lowered o s) = w := by
    obtain ⟨-, -, grl, other⟩ := lowered_keeps o s
    unfold released
    rw [grl, other]
    rfl
  have e := exec_confirmation r fits low
  refine ⟨fun other => ?_, fun unconfirmed ended latest => ?_⟩
  · rw [e, if_neg]
    · rfl
    · rw [confirms_iff]
      rintro ⟨unconfirmed, ended, latest⟩
      rcases other with h | h | h
      · exact absurd (h.symm.trans unconfirmed) (by decide)
      · exact h ended
      · exact absurd (h.symm.trans latest) (by decide)
  · rw [if_pos (confirms_iff.mpr ⟨unconfirmed, ended, latest⟩)] at e
    obtain ⟨slc, now, -, -⟩ := lowered_keeps o s
    obtain ⟨osc, feedback, confirmed⟩ := out_lowered o s
    obtain ⟨oscW, feedbackW, confirmedW⟩ := sessionsKept_released im o (lowered o s) o
    have sessionsW : sessions w = sessions s := by
      rw [← wIs, (sessionsKept_released im o _).sessions, sessions_lowered]
    have nowW : w.now = s.now := by rw [← wIs, (released_slc im o _).2, now]
    have slcW : w.slc = s.slc := by rw [← wIs, (released_slc im o _).1, slc]
    rw [wIs] at oscW feedbackW confirmedW
    have downIff : outputDown (w.out o) = true ↔ down := by
      rw [outputDown_iff, oscW, osc, confirmedW, confirmed]
      simp only [and_true]
      rfl
    have closes : (w.out o).feedback = (s.out o).feedback := feedbackW.trans feedback
    have but := confirmDecrease_butSlot im o s
    have first := noted_lowerGrant im o s
    have second := noted_releaseRises im o s
    have rest := (moves_reportOutput im o (confirmDecrease im o (s.modOut o settledHigh))).toSlotMoved.trans
      (moved_outletEvent im s _)
    have announcedV : announced im (noted im (lowerGrant o) (s.modOut o settledHigh)) = announced im v :=
      ButSlot.announced (butSlot_noteUpdate im _ _) im
    rw [wIs] at but
    have same := but.sessions.trans sessionsW
    have out := but.out o
    have at_now : (confirmDecrease im o (s.modOut o settledHigh)).now = s.now := by rw [but]; exact nowW
    refine ⟨_, e, fun up => ?_, fun isDown closed => ?_, fun isDown opened => ?_, fun n => ?_, fun can update => ?_,
      fun can none none' stays => ?_⟩
    · exact but.trans (butSlot_outletEvent_up same (by rwa [out, downIff]))
    · have opens := butSlot_outletEvent_closed (im := im) same (by rwa [out, downIff]) (by rwa [out, closes])
      rw [at_now] at opens
      exact (but.modOut o (waitsOpen im s.now)).trans opens
    · have completed := closeCompleted_outletEvent (s := s) fits same (by rwa [out, downIff]) (by rwa [out, closes])
      rw [at_now] at completed
      exact completed.of_butSlot (but.modOut o (waitsOpen im s.now))
    · rcases (first.trans second).toSlotMoved.trans rest |>.slot with same | ⟨empty, can, -⟩
      · exact same
      · exact absurd ⟨empty, announces_iff.mp can⟩ n
    · obtain ⟨empty, wait, tx⟩ := can
      rw [slot_of_updates first second rest empty (announces_iff.mpr ⟨wait, tx⟩)]
      · rfl
      · rw [announcedV, but.announced]
        exact update
    · have exact_w := confirmDecrease_eq_released none (wIs ▸ none')
      rw [wIs] at exact_w
      rw [exact_w] at same ⊢
      rw [outletEvent_slc same, slcW]
      · exact can.1
      · rw [downIff, closes]; exact stays
      · rintro ⟨differs, new⟩
        rw [slcW] at new
        exact none' ⟨fun unchanged => none ⟨unchanged ▸ differs, unchanged ▸ new⟩, new⟩

end Sys2Proof.Machine
end

section
/-! PROOF. The evaluation of the line mode (R35, R37, R39, R40): the rows of R39 in their order, and what an evaluation changes. -/

namespace Sys2Proof.Machine

theorem isolationCondition_iff {im : Image} {s : State} :
    isolationCondition im s = true ↔
      im.isolationCount ≤ s.prs.peerSilence ∨ im.isolationCount ≤ s.prs.ackSilence ∨ s.slc.tx ≠ .on := by
  simp only [isolationCondition, Bool.or_eq_true, decide_eq_true_eq, bne_iff_ne, or_assoc]

section
variable {im : Image} {s : State}

theorem evaluatedMode_alone (alone : s.prs.nEff = 1) : evaluatedMode im s = .joined := if_pos alone

theorem evaluatedMode_cut (more : s.prs.nEff ≠ 1) (cut : isolationCondition im s = true) : evaluatedMode im s = .isolated :=
  (if_neg more).trans (if_pos cut)

/-- The rows of R39 below the isolation condition: one for each mode the station is in. -/
theorem evaluatedMode_connected (more : s.prs.nEff ≠ 1) (uncut : ¬isolationCondition im s = true) :
    (s.prs.mode = .isolated → evaluatedMode im s = if s.prs.heardSinceEntry then .joined else .isolated) ∧
      (s.prs.mode = .halfHeard → evaluatedMode im s = if unheardCondition im s.prs.roster then .halfHeard else .joined) ∧
      (s.prs.mode = .joined → evaluatedMode im s = if im.isolationCount ≤ s.prs.unheard then .halfHeard else .joined) := by
  rw [evaluatedMode, if_neg more, if_neg uncut]
  refine ⟨fun mode => ?_, fun mode => ?_, fun mode => ?_⟩ <;> rw [mode]

/-- An evaluation that leaves the mode unchanged raises nothing (R40) and does nothing else. -/
theorem evaluateMode_of_same (same : evaluatedMode im s = s.prs.mode) : evaluateMode im s = s := if_pos same

/-- A change of mode raises LINE MODE (R40), and an entry to ISOLATED clears the flag and the count (R35). -/
theorem evaluateMode_of_change (change : evaluatedMode im s ≠ s.prs.mode) :
    evaluateMode im s =
      { s with
        prs := { s.prs with
          mode := evaluatedMode im s
          heardSinceEntry := if evaluatedMode im s = .isolated then false else s.prs.heardSinceEntry
          unheard := if evaluatedMode im s = .isolated then 0 else s.prs.unheard }
        hpt.flags := s.hpt.flags ||| flagMask .lineMode } := by
  rw [evaluateMode, if_neg change]
  by_cases entry : evaluatedMode im s = .isolated
  · simp only [entry, if_true]; rfl
  · simp only [entry, if_false]; rfl

end

/-- Settles O56: the mode after an evaluation is R39's outcome, so its rows give the first five parts, and the state after an
evaluation with and without a change of mode gives the last two. -/
theorem modeEvaluationTakesTheFirstRow : Obligations.ModeEvaluationTakesTheFirstRow := by
  intro im s t cut unheard
  have outcome : t.prs.mode = evaluatedMode im s := (evaluateMode_spec im s).1
  have cutIff : isolationCondition im s = true ↔ cut := isolationCondition_iff
  have unheardIff : unheardCondition im s.prs.roster = true ↔ unheard := unheardCondition_iff
  rw [outcome, ← cutIff, ← unheardIff]
  refine ⟨evaluatedMode_alone, evaluatedMode_cut, fun more uncut => (evaluatedMode_connected more uncut).1,
    fun more uncut mode => ?halfHeard, fun more uncut => (evaluatedMode_connected more uncut).2.2, evaluateMode_of_same,
    evaluateMode_of_change⟩
  case halfHeard =>
    rw [(evaluatedMode_connected more uncut).2.1 mode]
    cases unheardCondition im s.prs.roster <;> decide

end Sys2Proof.Machine
end

section
/-! PROOF. Weighted water-filling (R49 to R53): a round's floors, the rounds' fuel, and what a run gives. -/

namespace Sys2Proof.Machine

theorem demandSum_append (cs ds : List Claimant) : demandSum (cs ++ ds) = demandSum cs + demandSum ds := by
  simp [demandSum]

/-- A round divides its claimants into those that settle and the others (R50). -/
theorem demandSum_settles (v w : Nat) (cs : List Claimant) :
    demandSum (cs.filter (settles v w)) + demandSum (cs.filter fun c => !settles v w c) = demandSum cs := by
  rw [← demandSum_append]
  exact ((List.filter_append_perm _ cs).map Claimant.demand).sum_eq

/-- Floors of parts of an amount, together with what each may lose, in terms of the parts' sum. -/
theorem sum_provisional_mul (v w : Nat) (cs : List Claimant) :
    (cs.map (provisional v w)).sum * w ≤ v * weightSum cs ∧
      (0 < w → cs ≠ [] → v * weightSum cs < ((cs.map (provisional v w)).sum + cs.length) * w) := by
  induction cs with
  | nil => simp [weightSum]
  | cons c cs ih =>
    obtain ⟨least, most⟩ := ih
    have part : v * weightSum (c :: cs) = v * c.demand * c.weight + v * weightSum cs := by
      simp [weightSum, Nat.mul_add, Nat.mul_assoc]
    have floor : provisional v w c * w ≤ v * c.demand * c.weight := Nat.div_mul_le_self _ _
    rw [part, List.map_cons, List.sum_cons, List.length_cons]
    refine ⟨by rw [Nat.add_mul]; exact Nat.add_le_add floor least, fun pos _ => ?_⟩
    have next : v * c.demand * c.weight < (provisional v w c + 1) * w :=
      (Nat.lt_mul_div_succ _ pos).trans_eq (Nat.mul_comm _ _)
    have rest : v * weightSum cs ≤ ((cs.map (provisional v w)).sum + cs.length) * w := by
      rcases eq_or_ne cs [] with rfl | some
      · simp [weightSum]
      · exact (most pos some).le
    calc v * c.demand * c.weight + v * weightSum cs
        < (provisional v w c + 1) * w + ((cs.map (provisional v w)).sum + cs.length) * w := Nat.add_lt_add_of_lt_of_le next rest
      _ = _ := by ring

/-- The provisional shares of a round are together at most its amount (R52). -/
theorem sum_provisional_le (v : Nat) (cs : List Claimant) : (cs.map (provisional v (weightSum cs))).sum ≤ v := by
  rcases Nat.eq_zero_or_pos (weightSum cs) with zero | pos
  · have none : provisional v 0 = fun _ => 0 := funext fun _ => Nat.div_zero _
    simp [zero, none]
  · exact Nat.le_of_mul_le_mul_right (sum_provisional_mul v _ cs).1 pos

/-- The claimants that settle in a round demand at most its amount together (R50 step 3). -/
theorem demandSum_settled_le (v : Nat) (cs : List Claimant) : demandSum (cs.filter (settles v (weightSum cs))) ≤ v := by
  refine le_trans ?_ (sum_provisional_le v cs)
  generalize weightSum cs = w
  induction cs with
  | nil => exact Nat.le_refl 0
  | cons c cs ih =>
    rw [List.filter_cons, List.map_cons, List.sum_cons]
    split
    · rename_i settled
      exact Nat.add_le_add (of_decide_eq_true settled) ih
    · exact ih.trans (Nat.le_add_left _ _)

theorem weightSum_pos {cs : List Claimant} (h : ∀ c ∈ cs, 1 ≤ c.demand ∧ 1 ≤ c.weight) (some : cs ≠ []) : 0 < weightSum cs := by
  obtain ⟨c, cs, rfl⟩ := List.exists_cons_of_ne_nil some
  obtain ⟨demand, weight⟩ := h c List.mem_cons_self
  exact Nat.lt_of_lt_of_le (Nat.mul_pos demand weight) (by simp [weightSum])

-- The rounds.

/-- A round in which no claimant settles is the last (R50 step 4). -/
theorem rounds_last {n v : Nat} {cs : List Claimant} (h : cs.filter (settles v (weightSum cs)) = []) :
    rounds (n + 1) v cs = cs.map fun c => (c, provisional v (weightSum cs) c) := by
  simp [rounds, h]

/-- A round in which some claimants settle is followed by one of the others on what is left (R50 step 3). -/
theorem rounds_settling {n v : Nat} {cs : List Claimant} (h : cs.filter (settles v (weightSum cs)) ≠ []) :
    rounds (n + 1) v cs =
      (cs.filter (settles v (weightSum cs))).map (fun c => (c, c.demand)) ++
        rounds n (v - demandSum (cs.filter (settles v (weightSum cs)))) (cs.filter fun c => !settles v (weightSum cs) c) := by
  rw [rounds]
  exact if_neg (by simpa using h)

theorem rounds_nil (n v : Nat) : rounds n v [] = [] := by
  cases n with
  | zero => rfl
  | succ n => exact rounds_last rfl

/-- A round that settles a claimant leaves fewer. -/
theorem length_others_lt {v w : Nat} {cs : List Claimant} (h : cs.filter (settles v w) ≠ []) :
    (cs.filter fun c => !settles v w c).length < cs.length := by
  have split := (List.filter_append_perm (settles v w) cs).length_eq
  have settled := List.length_pos_iff.mpr h
  rw [List.length_append] at split
  omega

/-- As many rounds as claimants are enough (R52). -/
theorem rounds_enough {n v : Nat} {cs : List Claimant} (h : cs.length ≤ n) : rounds n v cs = rounds cs.length v cs := by
  have one_more : ∀ n v (cs : List Claimant), cs.length ≤ n → rounds (n + 1) v cs = rounds n v cs := by
    intro n
    induction n with
    | zero =>
      intro v cs h
      rw [List.length_eq_zero_iff.mp (Nat.le_zero.mp h), rounds_nil, rounds_nil]
    | succ n ih =>
      intro v cs h
      by_cases last : cs.filter (settles v (weightSum cs)) = []
      · rw [rounds_last last, rounds_last last]
      · have fewer := length_others_lt last
        rw [rounds_settling last, rounds_settling last, ih _ _ (by omega)]
  induction n, h using Nat.le_induction with
  | base => rfl
  | succ n h ih => rw [one_more n v cs h, ih]

/-- A property of shares that holds where no claimant settles and carries over a round that settles some, holds of the rounds (R50). -/
theorem rounds_induction {P : Nat → List Claimant → List (Claimant × Nat) → Prop} (none : ∀ v, P v [] [])
    (last : ∀ v cs, cs ≠ [] → cs.filter (settles v (weightSum cs)) = [] →
      P v cs (cs.map fun c => (c, provisional v (weightSum cs) c)))
    (settling : ∀ v cs shares, cs.filter (settles v (weightSum cs)) ≠ [] →
      P (v - demandSum (cs.filter (settles v (weightSum cs)))) (cs.filter fun c => !settles v (weightSum cs) c) shares →
      P v cs ((cs.filter (settles v (weightSum cs))).map (fun c => (c, c.demand)) ++ shares))
    (v : Nat) (cs : List Claimant) : P v cs (rounds cs.length v cs) := by
  induction k : cs.length using Nat.strong_induction_on generalizing v cs with
  | _ k' ih =>
    cases k' with
    | zero => rw [List.length_eq_zero_iff.mp k]; exact none v
    | succ n =>
      by_cases stops : cs.filter (settles v (weightSum cs)) = []
      · rw [rounds_last stops]
        exact last v cs (by rintro rfl; nomatch k) stops
      · have fewer := length_others_lt stops
        rw [rounds_settling stops, rounds_enough (by omega)]
        exact settling v cs _ stops (ih _ (k ▸ fewer) _ _ rfl)

theorem provisional_lt_of_last {v w : Nat} {cs : List Claimant} (h : cs.filter (settles v w) = []) {c : Claimant} (m : c ∈ cs) :
    provisional v w c < c.demand := by
  simpa [settles] using List.filter_eq_nil_iff.mp h c m

@[simp] theorem map_fst_withShare (f : Claimant → Nat) (cs : List Claimant) : (cs.map fun c => (c, f c)).map Prod.fst = cs := by
  simp [Function.comp_def]

@[simp] theorem map_snd_withShare (f : Claimant → Nat) (cs : List Claimant) :
    (cs.map fun c => (c, f c)).map Prod.snd = cs.map f := by
  simp [Function.comp_def]

/-- Every claimant gets one share (R49). -/
theorem rounds_claimants (v : Nat) (cs : List Claimant) : ((rounds cs.length v cs).map Prod.fst).Perm cs := by
  refine rounds_induction (P := fun _ cs shares => (shares.map Prod.fst).Perm cs) (fun _ => .nil) (fun v cs _ _ => ?_)
    (fun v cs shares _ rest => ?_) v cs
  · rw [map_fst_withShare]
  · rw [List.map_append, map_fst_withShare]
    exact (rest.append_left _).trans (List.filter_append_perm _ cs)

/-- No share is more than the demand (R51). -/
theorem rounds_le_demand (v : Nat) (cs : List Claimant) : ∀ x ∈ rounds cs.length v cs, x.2 ≤ x.1.demand := by
  refine rounds_induction (P := fun _ _ shares => ∀ x ∈ shares, x.2 ≤ x.1.demand) (fun _ => nofun) (fun v cs _ stops => ?_)
    (fun v cs shares _ rest => ?_) v cs
  · rintro x m
    obtain ⟨c, claims, rfl⟩ := List.mem_map.mp m
    exact (provisional_lt_of_last stops claims).le
  · rintro x m
    rcases List.mem_append.mp m with settled | later
    · obtain ⟨c, -, rfl⟩ := List.mem_map.mp settled
      exact Nat.le_refl _
    · exact rest x later

/-- The shares are together at most the amount (R51). -/
theorem rounds_sum_le (v : Nat) (cs : List Claimant) : ((rounds cs.length v cs).map Prod.snd).sum ≤ v := by
  refine rounds_induction (P := fun v _ shares => (shares.map Prod.snd).sum ≤ v) (fun _ => Nat.zero_le _) (fun v cs _ _ => ?_)
    (fun v cs shares _ rest => ?_) v cs
  · rw [map_snd_withShare]
    exact sum_provisional_le v cs
  · have settled := demandSum_settled_le v cs
    rw [List.map_append, map_snd_withShare, List.sum_append]
    exact (Nat.add_le_add_left rest _).trans (Nat.add_sub_cancel' settled).le

/-- What the claimants that settle leave is less than the others demand. -/
theorem left_lt_others {v : Nat} {cs : List Claimant} (h : v < demandSum cs) :
    v - demandSum (cs.filter (settles v (weightSum cs))) < demandSum (cs.filter fun c => !settles v (weightSum cs) c) := by
  have all := demandSum_settles v (weightSum cs) cs
  have settled := demandSum_settled_le v cs
  omega

/-- Less than one unit for each claimant is left over (R51, R53). -/
theorem lt_rounds_sum (v : Nat) (cs : List Claimant) (h : ∀ c ∈ cs, 1 ≤ c.demand ∧ 1 ≤ c.weight) (scarce : v < demandSum cs) :
    v < ((rounds cs.length v cs).map Prod.snd).sum + cs.length := by
  refine rounds_induction
    (P := fun v cs shares => (∀ c ∈ cs, 1 ≤ c.demand ∧ 1 ≤ c.weight) → v < demandSum cs →
      v < (shares.map Prod.snd).sum + cs.length) (fun v _ n => absurd n (Nat.not_lt_zero v)) (fun v cs some _ h _ => ?_)
    (fun v cs shares some rest h scarce => ?_) v cs h scarce
  · rw [map_snd_withShare]
    have pos := weightSum_pos h some
    exact lt_of_mul_lt_mul_right ((sum_provisional_mul v _ cs).2 pos some) (Nat.zero_le _)
  · have later := rest (fun c m => h c (List.mem_of_mem_filter m)) (left_lt_others scarce)
    have fewer := length_others_lt some
    rw [List.map_append, map_snd_withShare, List.sum_append]
    change v < demandSum _ + _ + _
    omega

-- One run (R49).

theorem waterFill_of_le {v : Nat} {cs : List Claimant} (h : demandSum cs ≤ v) : waterFill v cs = cs.map fun c => (c, c.demand) := if_pos h

theorem waterFill_of_lt {v : Nat} {cs : List Claimant} (h : v < demandSum cs) : waterFill v cs = rounds cs.length v cs :=
  if_neg (Nat.not_le.mpr h)

theorem waterFill_claimants (v : Nat) (cs : List Claimant) : ((waterFill v cs).map Prod.fst).Perm cs := by
  rcases Nat.lt_or_ge v (demandSum cs) with scarce | enough
  · rw [waterFill_of_lt scarce]; exact rounds_claimants v cs
  · rw [waterFill_of_le enough, map_fst_withShare]

theorem waterFill_le_demand (v : Nat) (cs : List Claimant) : ∀ x ∈ waterFill v cs, x.2 ≤ x.1.demand := by
  rcases Nat.lt_or_ge v (demandSum cs) with scarce | enough
  · rw [waterFill_of_lt scarce]; exact rounds_le_demand v cs
  · rw [waterFill_of_le enough]
    rintro x m
    obtain ⟨c, -, rfl⟩ := List.mem_map.mp m
    exact Nat.le_refl _

theorem waterFill_sum_le (v : Nat) (cs : List Claimant) : ((waterFill v cs).map Prod.snd).sum ≤ v := by
  rcases Nat.lt_or_ge v (demandSum cs) with scarce | enough
  · rw [waterFill_of_lt scarce]; exact rounds_sum_le v cs
  · rw [waterFill_of_le enough, map_snd_withShare]; exact enough

theorem demandSum_perm {cs ds : List Claimant} (h : cs.Perm ds) : demandSum cs = demandSum ds := (h.map _).sum_eq

theorem rounds_perm {n v : Nat} {cs ds : List Claimant} (h : cs.Perm ds) : (rounds n v cs).Perm (rounds n v ds) := by
  induction n generalizing v cs ds with
  | zero => exact h.map _
  | succ n ih =>
    have sum : weightSum cs = weightSum ds := (h.map _).sum_eq
    by_cases stops : cs.filter (settles v (weightSum cs)) = []
    · have stops' : ds.filter (settles v (weightSum ds)) = [] := by
        rw [← sum]; exact (stops ▸ h.filter (settles v (weightSum cs))).nil_eq.symm
      rw [rounds_last stops, rounds_last stops', sum]
      exact h.map _
    · have settled := h.filter (settles v (weightSum cs))
      have goes : ds.filter (settles v (weightSum ds)) ≠ [] := by
        rw [← sum]; exact fun e => stops (e ▸ settled).eq_nil
      rw [rounds_settling stops, rounds_settling goes, ← sum, ← demandSum_perm settled]
      exact (settled.map _).append (ih (h.filter _))

/-- The shares do not depend on the order of the claimants (R53). -/
theorem waterFill_perm (v : Nat) {cs ds : List Claimant} (h : cs.Perm ds) : (waterFill v cs).Perm (waterFill v ds) := by
  have demands := demandSum_perm h
  rcases Nat.lt_or_ge v (demandSum cs) with scarce | enough
  · rw [waterFill_of_lt scarce, waterFill_of_lt (demands ▸ scarce), h.length_eq]
    exact rounds_perm h
  · rw [waterFill_of_le enough, waterFill_of_le (demands ▸ enough)]
    exact h.map _

/-- The rounds of a run: the claimants that settle have their demands, and the others run again on what is left (R50). -/
theorem waterFill_settling {v : Nat} {cs : List Claimant} (scarce : v < demandSum cs)
    (h : cs.filter (settles v (weightSum cs)) ≠ []) :
    waterFill v cs =
      (cs.filter (settles v (weightSum cs))).map (fun c => (c, c.demand)) ++
        waterFill (v - demandSum (cs.filter (settles v (weightSum cs)))) (cs.filter fun c => !settles v (weightSum cs) c) := by
  have fewer := length_others_lt h
  obtain ⟨n, len⟩ : ∃ n, cs.length = n + 1 := ⟨cs.length - 1, by omega⟩
  rw [waterFill_of_lt scarce, waterFill_of_lt (left_lt_others scarce), len, rounds_settling h, rounds_enough (by omega)]

theorem waterFill_last {v : Nat} {cs : List Claimant} (scarce : v < demandSum cs)
    (h : cs.filter (settles v (weightSum cs)) = []) :
    waterFill v cs = cs.map fun c => (c, provisional v (weightSum cs) c) := by
  cases cs with
  | nil => exact absurd scarce (Nat.not_lt_zero v)
  | cons c cs => rw [waterFill_of_lt scarce]; exact rounds_last h

/-- Settles O36: each property of the rounds by `rounds_induction`, and the rounds of a run by `waterFill_settling`. -/
theorem waterFillDividesTheAmount : Obligations.WaterFillDividesTheAmount := by
  intro v cs h
  refine ⟨waterFill_claimants v cs, waterFill_le_demand v cs, waterFill_sum_le v cs, fun enough x m => ?_,
    fun scarce => ⟨?_, ?_⟩, fun ds => waterFill_perm v⟩
  · rw [waterFill_of_le enough] at m
    obtain ⟨c, -, rfl⟩ := List.mem_map.mp m
    rfl
  · rw [waterFill_of_lt scarce]
    exact lt_rounds_sum v cs h scarce
  · intro share settled others
    have rest : (cs.filter fun c => !settles v (weightSum cs) c) = others :=
      List.filter_congr fun c _ => by simp only [settles, ← decide_not, Nat.not_le]; rfl
    refine ⟨fun none => (waterFill_last scarce none).symm ▸ .refl _, fun some => ?_⟩
    rw [waterFill_settling scarce some, rest]
    exact .refl _

end Sys2Proof.Machine
end

section
/-! PROOF. The splits (R54 to R64): the share an outlet has of a run, the claimants of the two splits, and the available power. -/

namespace Sys2Proof.Machine

-- An outlet's share of a run.

/-- The shares a run gave the claimants of an outlet, together. -/
def sharesOf (o : Outlet) (run : List (Claimant × Nat)) : Nat :=
  ((run.filter fun x => decide (x.1.own = some o)).map Prod.snd).sum

theorem sharesOf_cons (o : Outlet) (x : Claimant × Nat) (run : List (Claimant × Nat)) :
    sharesOf o (x :: run) = (if x.1.own = some o then x.2 else 0) + sharesOf o run := by
  unfold sharesOf
  rw [List.filter_cons]
  by_cases own : x.1.own = some o <;> simp [own]

theorem shareOf_cons (o : Outlet) (x : Claimant × Nat) (run : List (Claimant × Nat)) :
    shareOf o (x :: run) = if x.1.own = some o then x.2 else shareOf o run := by
  unfold shareOf
  by_cases own : x.1.own = some o <;> simp [own]

theorem shareOf_le_sharesOf (o : Outlet) (run : List (Claimant × Nat)) : shareOf o run ≤ sharesOf o run := by
  induction run with
  | nil => exact Nat.le_refl 0
  | cons x run ih =>
    rw [shareOf_cons, sharesOf_cons]
    split
    · exact Nat.le_add_right _ _
    · rwa [Nat.zero_add]

/-- An outlet that claims at most once has the one share of its claimant (R60). -/
theorem shareOf_eq_sharesOf {o : Outlet} {run : List (Claimant × Nat)}
    (once : (run.map Prod.fst).Pairwise fun c d => c.own = some o → d.own ≠ some o) : shareOf o run = sharesOf o run := by
  induction run with
  | nil => rfl
  | cons x run ih =>
    obtain ⟨first, later⟩ := List.pairwise_cons.mp once
    rw [shareOf_cons, sharesOf_cons, ← ih later]
    split
    · rename_i own
      have absent : shareOf o run = 0 := by
        rw [ih later, sharesOf, List.filter_eq_nil_iff.mpr]
        · rfl
        · exact fun y m => by simpa using first y.1 (List.mem_map_of_mem m) own
      rw [absent, Nat.add_zero]
    · rw [Nat.zero_add]

/-- The two outlets' shares are among those of the run. -/
theorem shareOf_add_le (run : List (Claimant × Nat)) : shareOf .a run + shareOf .b run ≤ (run.map Prod.snd).sum := by
  have both : sharesOf .a run + sharesOf .b run ≤ (run.map Prod.snd).sum := by
    induction run with
    | nil => exact Nat.le_refl 0
    | cons x run ih =>
      have one : (if x.1.own = some .a then x.2 else 0) + (if x.1.own = some .b then x.2 else 0) ≤ x.2 := by
        by_cases a : x.1.own = some .a
        · simp [a]
        · simp only [a, if_false, Nat.zero_add]; split <;> omega
      rw [sharesOf_cons, sharesOf_cons, List.map_cons, List.sum_cons]
      omega
  exact (Nat.add_le_add (shareOf_le_sharesOf .a run) (shareOf_le_sharesOf .b run)).trans both

/-- The two outlets' shares of an amount are together at most the amount (R51). -/
theorem shareOf_waterFill_add_le (v : Nat) (cs : List Claimant) :
    shareOf .a (waterFill v cs) + shareOf .b (waterFill v cs) ≤ v :=
  (shareOf_add_le _).trans (waterFill_sum_le v cs)

/-- An outlet's share is at most what its claimants demand (R51). -/
theorem shareOf_waterFill_le {o : Outlet} {v d : Nat} {cs : List Claimant} (h : ∀ c ∈ cs, c.own = some o → c.demand ≤ d) :
    shareOf o (waterFill v cs) ≤ d := by
  unfold shareOf
  split
  · rename_i x found
    have own : x.1.own = some o := by simpa using List.find?_some found
    have served := List.mem_of_find?_eq_some found
    exact (waterFill_le_demand v cs x served).trans (h x.1 (mem_of_mem_waterFill served) own)
  · exact Nat.zero_le _

/-- An outlet claims at most once. -/
def ClaimsOnce (o : Outlet) (cs : List Claimant) : Prop := cs.Pairwise fun c d => c.own = some o → d.own ≠ some o

theorem ClaimsOnce.perm {o : Outlet} {cs ds : List Claimant} (h : ClaimsOnce o cs) (p : ds.Perm cs) : ClaimsOnce o ds :=
  p.symm.pairwise h fun other own own' => other own' own

theorem shareOf_waterFill_eq {o : Outlet} {cs : List Claimant} (v : Nat) (once : ClaimsOnce o cs) :
    shareOf o (waterFill v cs) = sharesOf o (waterFill v cs) := shareOf_eq_sharesOf (once.perm (waterFill_claimants v cs))

-- The claimants of the splits (R54, R55, R59).

/-- The claimants of the outlets that pass a test, each with its demand. -/
def outletClaimants (p : Outlet → Bool) (demand weight : Outlet → Nat) : List Claimant :=
  ([Outlet.a, .b].filter p).map fun o => ⟨some o, demand o, weight o⟩

theorem filterMap_outlets (p : Outlet → Bool) (demand weight : Outlet → Nat) :
    ([Outlet.a, .b].filterMap fun o => if p o then some (Claimant.mk (some o) (demand o) (weight o)) else none) =
      outletClaimants p demand weight := by
  unfold outletClaimants
  cases a : p .a <;> cases b : p .b <;> simp [a, b]

theorem pedestalClaimants_eq (im : Image) (s : State) (added : Option Outlet) :
    pedestalClaimants im s added =
      outletClaimants (fun o => claims s added o && decide (1 ≤ rawDemand im s o)) (rawDemand im s) (sessionWeight im s) :=
  filterMap_outlets _ _ _

theorem ownClaimants_eq (im : Image) (s : State) (added : Option Outlet) :
    ownClaimants im s added =
      outletClaimants (fun o => decide (1 ≤ splitDemand im s added o)) (splitDemand im s added) (sessionWeight im s) := by
  rw [← filterMap_outlets]
  simp [ownClaimants]

theorem mem_outletClaimants {p : Outlet → Bool} {demand weight : Outlet → Nat} {c : Claimant} :
    c ∈ outletClaimants p demand weight ↔ ∃ o, p o = true ∧ c = ⟨some o, demand o, weight o⟩ := by
  have both : ∀ o, o ∈ [Outlet.a, .b] := fun o => by cases o <;> simp
  simp only [outletClaimants, List.mem_map, List.mem_filter, both, true_and, eq_comm]

theorem claimsOnce_outletClaimants (o : Outlet) (p : Outlet → Bool) (demand weight : Outlet → Nat) :
    ClaimsOnce o (outletClaimants p demand weight) := by
  have two : ([Outlet.a, .b].filter p).Nodup := List.Nodup.filter _ (by decide)
  refine List.Pairwise.map _ (fun x y differ own own' => differ ?_) two
  exact (Option.some.inj own).trans (Option.some.inj own').symm

theorem demandSum_outletClaimants (p : Outlet → Bool) (demand weight : Outlet → Nat) :
    demandSum (outletClaimants p demand weight) = (if p .a then demand .a else 0) + if p .b then demand .b else 0 := by
  unfold outletClaimants demandSum
  cases a : p .a <;> cases b : p .b <;> simp [a, b]

/-- A peer's claims, one by one. -/
theorem peerClaimants_eq (s : State) :
    peerClaimants s =
      (((s.prs.roster.filter Entry.fresh).flatMap fun e => [e.claimA, e.claimB]).filter fun c =>
        decide (c.present = true ∧ c.parked = false ∧ 1 ≤ c.demand)).map fun c => ⟨none, c.demand, c.weight⟩ := by
  have one : ∀ c : Claim, (peerClaimant c).toList =
      ([c].filter fun c => decide (c.present = true ∧ c.parked = false ∧ 1 ≤ c.demand)).map fun c => ⟨none, c.demand, c.weight⟩ := by
    intro c
    unfold peerClaimant
    by_cases claim : c.present = true ∧ c.parked = false ∧ 1 ≤ c.demand
    · simp [claim]
    · have : ¬(c.present && !c.parked && decide (1 ≤ c.demand)) = true := by simpa [and_assoc] using claim
      simp [claim, this]
  have pair : ∀ e : Entry, (peerClaimant e.claimA).toList ++ (peerClaimant e.claimB).toList =
      ([e.claimA, e.claimB].filter fun c => decide (c.present = true ∧ c.parked = false ∧ 1 ≤ c.demand)).map
        fun c => ⟨none, c.demand, c.weight⟩ := by
    intro e
    rw [one, one, ← List.map_append, ← List.filter_append]
    rfl
  rw [List.filter_flatMap, List.map_flatMap]
  simp only [peerClaimants, pair]

theorem own_peerClaimants {s : State} {c : Claimant} (m : c ∈ peerClaimants s) : c.own = none ∧ 1 ≤ c.demand := by
  rw [peerClaimants_eq] at m
  obtain ⟨x, claiming, rfl⟩ := List.mem_map.mp m
  obtain ⟨-, -, demanding⟩ := of_decide_eq_true (List.mem_filter.mp claiming).2
  exact ⟨rfl, demanding⟩

/-- What the FRESH peers claim together (R59, R62). -/
theorem demandSum_peerClaimants (s : State) :
    demandSum (peerClaimants s) =
      ((s.prs.roster.filter Entry.fresh).map fun e =>
        (if e.claimA.present = true ∧ e.claimA.parked = false then e.claimA.demand else 0) +
          if e.claimB.present = true ∧ e.claimB.parked = false then e.claimB.demand else 0).sum := by
  have one : ∀ c : Claim, demandSum (peerClaimant c).toList = if c.present = true ∧ c.parked = false then c.demand else 0 := by
    intro c
    unfold peerClaimant demandSum
    by_cases claim : c.present = true ∧ c.parked = false
    · rcases Nat.eq_zero_or_pos c.demand with zero | pos
      · simp [claim, zero]
      · simp [claim, Nat.succ_le_of_lt pos]
    · have : ¬(c.present && !c.parked && decide (1 ≤ c.demand)) = true := by
        simp only [Bool.and_eq_true, Bool.not_eq_true', decide_eq_true_eq]
        exact fun n => claim n.1
      simp [claim, this]
  change demandSum ((s.prs.roster.filter Entry.fresh).flatMap _) = _
  induction s.prs.roster.filter Entry.fresh with
  | nil => rfl
  | cons e es ih => rw [List.flatMap_cons, demandSum_append, demandSum_append, one, one, ih, List.map_cons, List.sum_cons]

-- The raw and split demands, the targets and their bounds.

theorem rawDemand_eq (im : Image) (s : State) (o : Outlet) :
    rawDemand im s o =
      if fitted im o = true ∧ ((s.out o).osc.state = .dispensing ∨ (s.out o).osc.state = .parked) then
        min (s.out o).osc.header.demand (pOut im o)
      else 0 := by
  unfold rawDemand
  cases fitted im o <;> cases (s.out o).osc.state <;> rfl

theorem rawDemand_le (im : Image) (s : State) (o : Outlet) : rawDemand im s o ≤ pOut im o := by
  rw [rawDemand_eq]
  split
  · exact Nat.min_le_right _ _
  · exact Nat.zero_le _

theorem splitDemand_le (im : Image) (s : State) (added : Option Outlet) (o : Outlet) :
    splitDemand im s added o ≤ rawDemand im s o := by
  refine shareOf_waterFill_le fun c m own => ?_
  rw [pedestalClaimants_eq] at m
  obtain ⟨x, -, rfl⟩ := mem_outletClaimants.mp m
  obtain rfl := Option.some.inj own
  exact Nat.le_refl _

theorem own_mem_siteClaimants {im : Image} {s : State} {added : Option Outlet} {c : Claimant} {o : Outlet}
    (m : c ∈ siteClaimants im s added) (own : c.own = some o) : c.demand = splitDemand im s added o := by
  have of_own : c ∈ ownClaimants im s added → c.demand = splitDemand im s added o := fun m => by
    rw [ownClaimants_eq] at m
    obtain ⟨x, -, rfl⟩ := mem_outletClaimants.mp m
    obtain rfl := Option.some.inj own
    rfl
  unfold siteClaimants at m
  split at m
  · rcases List.mem_append.mp m with m | m
    · exact of_own m
    · rw [(own_peerClaimants m).1] at own; nomatch own
  · exact of_own m
  · exact of_own m

theorem siteShare_le (im : Image) (s : State) (added : Option Outlet) (o : Outlet) :
    siteShare im s added o ≤ splitDemand im s added o :=
  shareOf_waterFill_le fun _ m own => (own_mem_siteClaimants m own).le

/-- The two targets are together at most the available power (R60, R61). -/
theorem siteShare_add_le (im : Image) (s : State) (added : Option Outlet) :
    siteShare im s added .a + siteShare im s added .b ≤ availablePower im s := shareOf_waterFill_add_le _ _

theorem splitDemand_add_le (im : Image) (s : State) (added : Option Outlet) :
    splitDemand im s added .a + splitDemand im s added .b ≤ im.pMax := shareOf_waterFill_add_le _ _

theorem claimsOnce_siteClaimants (im : Image) (s : State) (added : Option Outlet) (o : Outlet) :
    ClaimsOnce o (siteClaimants im s added) := by
  have own : ClaimsOnce o (ownClaimants im s added) := by
    rw [ownClaimants_eq]; exact claimsOnce_outletClaimants ..
  unfold siteClaimants
  split
  · refine List.pairwise_append.mpr ⟨own, List.pairwise_of_forall_mem_list fun c _ d m _ => ?_, fun c _ d m _ => ?_⟩
    all_goals rw [(own_peerClaimants m).1]; nofun
  · exact own
  · exact own

theorem splitDemand_not_dispensing {im : Image} {s : State} {o : Outlet} (h : (s.out o).osc.state ≠ .dispensing) :
    splitDemand im s none o = 0 := by
  refine shareOf_waterFill_of_absent fun c m own => ?_
  rw [pedestalClaimants_eq] at m
  obtain ⟨x, claiming, rfl⟩ := mem_outletClaimants.mp m
  obtain rfl := Option.some.inj own
  simp [claims, h] at claiming

/-- Two demands that fit P_max are not split (R51, R55). -/
theorem splitDemand_of_fits {im : Image} {s : State} (a : s.outA.osc.state = .dispensing) (b : s.outB.osc.state = .dispensing)
    (fits : rawDemand im s .a + rawDemand im s .b ≤ im.pMax) (o : Outlet) : splitDemand im s none o = rawDemand im s o := by
  have claim : ∀ x, claims s none x = true := fun x => by cases x <;> simp [claims, a, b]
  have demands : ∀ x, (if decide (1 ≤ rawDemand im s x) = true then rawDemand im s x else 0) = rawDemand im s x := fun x => by
    split
    · rfl
    · rename_i none; simp only [decide_eq_true_eq] at none; omega
  have sum : demandSum (pedestalClaimants im s none) ≤ im.pMax := by
    simp only [pedestalClaimants_eq, demandSum_outletClaimants, claim, Bool.true_and, demands]
    exact fits
  rw [splitDemand, waterFill_of_le sum, pedestalClaimants_eq]
  unfold outletClaimants
  by_cases rawA : 1 ≤ rawDemand im s .a <;> by_cases rawB : 1 ≤ rawDemand im s .b <;> cases o <;>
    simp [claim, rawA, rawB, shareOf] <;> omega

-- The isolated share, the available power and the headroom (R56 to R58, R65).

theorem isolatedShare_cast (im : Image) (s : State) :
    (isolatedShare im s : Int) = max 0 ((s.prs.lEff : Int) - im.guard) / s.prs.nEff := by
  rw [isolatedShare, Int.natCast_ediv]
  congr 1
  omega

theorem staleReservation_cast (s : State) :
    (staleReservation s : Int) =
      min 40000 (((s.prs.roster.filter fun e => !e.fresh).map fun e => max (e.granted : Int) e.intended).sum) := by
  simp [staleReservation, Function.comp_def]

theorem availablePower_cast (im : Image) (s : State) :
    (availablePower im s : Int) =
      if s.prs.mode = .joined then
        max 0 ((s.prs.lEff : Int) - im.guard - staleReservation s - s.prs.unseen * (isolatedShare im s : Int))
      else isolatedShare im s := by
  unfold availablePower
  rw [← Int.natCast_mul]
  cases s.prs.mode
  · rw [if_pos rfl]; dsimp only; omega
  · rfl
  · rfl

theorem availablePower_not_joined {im : Image} {s : State} (h : s.prs.mode ≠ .joined) : availablePower im s = isolatedShare im s := by
  unfold availablePower
  split
  · exact absurd ‹_› h
  · rfl
  · rfl

-- The site-busy flag (R62).

theorem siteBusy_iff (im : Image) (s : State) :
    siteBusy im s = true ↔
      s.prs.mode = .joined ∧ 1 ≤ demandSum (siteClaimants im s none) ∧
        s.prs.lEff * im.busyPercent / 100 ≤ demandSum (siteClaimants im s none) := by
  have demanding : siteClaimants im s none ≠ [] ↔ 1 ≤ demandSum (siteClaimants im s none) := by
    have each : ∀ c ∈ siteClaimants im s none, 1 ≤ c.demand := by
      have own : ∀ c ∈ ownClaimants im s none, 1 ≤ c.demand := fun c m => by
        rw [ownClaimants_eq] at m
        obtain ⟨x, some, rfl⟩ := mem_outletClaimants.mp m
        exact of_decide_eq_true some
      unfold siteClaimants
      split
      · exact fun c m => (List.mem_append.mp m).elim (own c) fun m => (own_peerClaimants m).2
      · exact own
      · exact own
    generalize siteClaimants im s none = cs at each ⊢
    cases cs with
    | nil => simp [demandSum]
    | cons c cs =>
      have first := each c List.mem_cons_self
      simp only [ne_eq, reduceCtorEq, not_false_eq_true, true_iff, demandSum, List.map_cons, List.sum_cons]
      omega
  unfold siteBusy
  cases s.prs.mode <;> simp [← demanding]

theorem demandSum_siteClaimants {im : Image} {s : State} (joined : s.prs.mode = .joined) :
    demandSum (siteClaimants im s none) =
      splitDemand im s none .a + splitDemand im s none .b + demandSum (peerClaimants s) := by
  have demands : ∀ x, (if decide (1 ≤ splitDemand im s none x) = true then splitDemand im s none x else 0) = splitDemand im s none x :=
    fun x => by
      split
      · rfl
      · rename_i none; simp only [decide_eq_true_eq] at none; omega
  simp only [siteClaimants, joined, demandSum_append, ownClaimants_eq, demandSum_outletClaimants, demands]

-- The hypothetical share (R64).

/-- The outlet as if it were DISPENSING. -/
def asDispensing (s : State) (o : Outlet) : State := s.modOut o fun u => { u with osc := { u.osc with state := .dispensing } }

section
variable {im : Image} {s : State} {o : Outlet}

theorem out_asDispensing (x : Outlet) :
    ((asDispensing s o).out x).osc = { (s.out x).osc with state := if x = o then .dispensing else (s.out x).osc.state } := by
  cases o <;> cases x <;> rfl

theorem rawDemand_asDispensing (parked : (s.out o).osc.state = .parked) (x : Outlet) :
    rawDemand im (asDispensing s o) x = rawDemand im s x := by
  rw [rawDemand_eq, rawDemand_eq, out_asDispensing]
  by_cases same : x = o
  · subst same; simp [parked]
  · simp [same]

theorem claims_asDispensing (x : Outlet) : claims (asDispensing s o) none x = claims s (some o) x := by
  unfold claims
  rw [out_asDispensing]
  cases o <;> cases x <;> simp

/-- A PARKED outlet added back claims as it would in DISPENSING (R64). -/
theorem siteShare_asDispensing (parked : (s.out o).osc.state = .parked) (x : Outlet) :
    siteShare im (asDispensing s o) none x = siteShare im s (some o) x := by
  have prs : (asDispensing s o).prs = s.prs := modOut_prs ..
  have weight : sessionWeight im (asDispensing s o) = sessionWeight im s := funext fun y => by
    simp only [sessionWeight, out_asDispensing]
  have raw : rawDemand im (asDispensing s o) = rawDemand im s := funext (rawDemand_asDispensing parked)
  have claim : claims (asDispensing s o) none = claims s (some o) := funext claims_asDispensing
  have split : splitDemand im (asDispensing s o) none = splitDemand im s (some o) := funext fun y => by
    simp only [splitDemand, pedestalClaimants_eq, raw, claim, weight]
  have own : ownClaimants im (asDispensing s o) none = ownClaimants im s (some o) := by
    simp only [ownClaimants_eq, split, weight]
  have site : siteClaimants im (asDispensing s o) none = siteClaimants im s (some o) := by
    simp only [siteClaimants, peerClaimants, prs, own]
  have power : availablePower im (asDispensing s o) = availablePower im s := by
    simp only [availablePower, staleReservation, isolatedShare, prs]
  rw [siteShare, siteShare, power, site]

theorem hypotheticalShare_parked (fits : fitted im o = true) (parked : (s.out o).osc.state = .parked) :
    hypotheticalShare im s o = some (siteShare im (asDispensing s o) none o) := by
  unfold hypotheticalShare
  rw [siteShare_asDispensing parked, if_pos (by simp [fits, parked])]
  split
  · rename_i zero
    have share := (siteShare_le im s (some o) o).trans (splitDemand_le im s (some o) o)
    exact congrArg some (by omega)
  · rfl

theorem hypotheticalShare_none (h : fitted im o = false ∨ (s.out o).osc.state ≠ .parked) : hypotheticalShare im s o = none := by
  refine if_neg ?_
  rcases h with unfit | other
  · simp [unfit]
  · simp [other]

end

/-- Settles O37: the claimants of the two splits as lists over the outlets and the peers, and the bounds of a run. -/
theorem targetsStayWithinTheSplits : Obligations.TargetsStayWithinTheSplits := by
  intro im s
  refine ⟨?_, fun o => ⟨siteShare_le .., splitDemand_le .., rawDemand_le .., splitDemand_not_dispensing⟩, splitDemand_add_le ..,
    siteShare_add_le .., ?_, fun a b fits => ⟨splitDemand_of_fits a b fits .a, splitDemand_of_fits a b fits .b⟩, ?_,
    fun o => ⟨hypotheticalShare_parked, hypotheticalShare_none⟩⟩
  · intro raw weight shareIn outlets pedestal own peers o
    have raws : rawDemand im s = raw := funext (rawDemand_eq im s)
    have pedestals : pedestalClaimants im s none = pedestal := by
      rw [pedestalClaimants_eq, raws]
      simp only [pedestal, outletClaimants, claims, Bool.decide_and, beq_eq_decide, reduceCtorEq, decide_false, Bool.or_false]
      rfl
    have owns : ownClaimants im s none = own := ownClaimants_eq im s none
    have site : siteClaimants im s none = if s.prs.mode = .joined then own ++ peers else own := by
      rw [siteClaimants, owns, show peerClaimants s = peers from peerClaimants_eq s]
      cases s.prs.mode <;> rfl
    refine ⟨congrFun raws o, ?_, ?_⟩
    · rw [← pedestals, splitDemand, shareOf_waterFill_eq]
      · rfl
      · rw [pedestalClaimants_eq]; exact claimsOnce_outletClaimants ..
    · rw [← site, siteShare, shareOf_waterFill_eq _ (claimsOnce_siteClaimants im s none o)]
      rfl
  · intro iso stale
    refine ⟨isolatedShare_cast im s, ?_⟩
    rw [availablePower_cast, isolatedShare_cast, staleReservation_cast]
  · intro of peers sum
    rw [siteBusy_iff]
    refine and_congr_right fun joined => ?_
    rw [demandSum_siteClaimants joined, demandSum_peerClaimants]

end Sys2Proof.Machine
end

section
/-! PROOF. The headroom (R65) and what a rise evaluation does to the setpoints (R78, R79). -/

namespace Sys2Proof.Machine

/-- The setpoints of the two outlets together. -/
def stationCommanded (s : State) : Nat := s.outA.grl.commanded + s.outB.grl.commanded

theorem stationCommanded_raiseBy (o : Outlet) (n : Nat) (s : State) :
    stationCommanded (raiseBy o n s) = stationCommanded s + n := by
  cases o <;> simp [stationCommanded, raiseBy] <;> omega

/-- Rises served within an allowance raise the total by no more (R78). -/
theorem stationCommanded_serveRises (im : Image) (xs : List Outlet) (n : Nat) (s : State) :
    stationCommanded (serveRises im xs n s) ≤ stationCommanded s + n := by
  induction xs generalizing n s with
  | nil => exact Nat.le_add_right _ _
  | cons o xs ih =>
    unfold serveRises
    split
    · exact ih n s
    · dsimp only
      split
      · refine (ih _ _).trans ?_
        rw [stationCommanded_raiseBy]
        omega
      · exact ih n s

/-- A rise evaluation brings the total no further than headroom and P_max allow (R78). -/
theorem stationCommanded_evaluateRises (im : Image) (s : State) :
    stationCommanded (evaluateRises im s) ≤ max (stationCommanded s) (min (headroom im s) im.pMax) := by
  have served := stationCommanded_serveRises im s.grl.order (allowance im s) s
  change stationCommanded (serveRises ..) ≤ _
  rw [allowance] at served ⊢
  unfold stationCommanded at *
  omega

/-- What stands behind the peers of either status, as the headroom counts it (R57, R65). -/
theorem headroom_joined {im : Image} {s : State} (h : s.prs.mode = .joined) :
    headroom im s = s.prs.lEff - (im.guard + freshCommitment s + staleReservation s + s.prs.unseen * isolatedShare im s) := by
  unfold headroom
  rw [h]

theorem headroom_not_joined {im : Image} {s : State} (h : s.prs.mode ≠ .joined) : headroom im s = isolatedShare im s := by
  unfold headroom
  split
  · exact absurd ‹_› h
  · rfl
  · rfl

theorem freshCommitment_eq (s : State) :
    freshCommitment s = ((s.prs.roster.filter fun e => e.fresh == true).map fun e => max e.granted e.intended).sum := by
  simp only [freshCommitment, beq_true]

theorem staleReservation_eq (s : State) :
    staleReservation s = min 40000 (((s.prs.roster.filter fun e => e.fresh == false).map fun e => max e.granted e.intended).sum) := by
  simp only [staleReservation, beq_false]

theorem standsBehind_cast (entries : List Entry) :
    (((entries.map fun e => max e.granted e.intended).sum : Nat) : Int) =
      (entries.map fun e => max (e.granted : Int) e.intended).sum := by
  simp [Function.comp_def]

/-- Settles O39: the headroom case by case, and the bound of a rise evaluation. -/
theorem appliedRiseFitsWhatThePeersStandBehind : Obligations.AppliedRiseFitsWhatThePeersStandBehind := by
  refine ⟨fun im s => ?_, fun im s => ?_⟩
  · intro iso behind
    have share := isolatedShare_cast im s
    have fresh : (freshCommitment s : Int) = behind true := by rw [freshCommitment_eq, standsBehind_cast]
    have stale : (staleReservation s : Int) = min 40000 (behind false) := by
      rw [staleReservation_eq, Nat.cast_min, standsBehind_cast]; rfl
    by_cases joined : s.prs.mode = .joined
    · rw [headroom_joined joined, if_pos joined, ← fresh, ← stale, show iso = isolatedShare im s from share.symm, ← Int.natCast_mul]
      omega
    · rw [headroom_not_joined joined, if_neg joined, share]
  · intro t before after held rises
    have bound := stationCommanded_evaluateRises im s
    change after ≤ max before _ at bound
    have fresh : freshCommitment s = held true := freshCommitment_eq s
    have stale : staleReservation s = min 40000 (held false) := staleReservation_eq s
    refine ⟨by omega, fun joined => ?_, fun other => ?_⟩
    · rw [headroom_joined joined, fresh, stale, isolatedShare] at bound
      omega
    · rw [headroom_not_joined other, isolatedShare] at bound
      omega

end Sys2Proof.Machine
end

section
/-! SUPPORT. The hand-over (R72) at one outlet as a relation between what stood and what stands, and that a computation ends in a hand-over
that parks and resumes no outlet (R80, R82; log 15). -/

namespace Sys2Proof.Machine

/-- What a hand-over of its target does at a fitted outlet (R72, R80, R82), by the state it finds. -/
inductive HandOverOutcome (u v : OutletState) : Prop
  | parks (was : u.osc.state = .dispensing) (is : v.osc.state = .parked) (held : v.grl.parkHold ≠ .expired)
      (commanded : v.grl.commanded = 0) (pending : v.grl.pending = none)
  | dispenses (was : u.osc.state = .dispensing) (is : v.osc.state = .dispensing) (floor : u.osc.header.floor ≤ u.share.target)
      (commanded : v.grl.commanded = min u.grl.commanded u.share.target)
      (pending : v.grl.pending = if v.grl.commanded < u.share.target then some u.share.target else none)
  | resumes (was : u.osc.state = .parked) (expired : u.grl.parkHold = .expired) (is : v.osc.state = .dispensing)
  | waits (other : u.osc.state ≠ .dispensing) (same : v.osc.state = u.osc.state) (hold : v.grl.parkHold = u.grl.parkHold)
      (commanded : v.grl.commanded = u.grl.commanded) (pending : v.grl.pending = none ∨ v.grl.pending = u.grl.pending)

/-- A hand-over at a fitted outlet: it takes the target of the share, which it leaves with the header as it is. -/
structure HandedAt (u v : OutletState) : Prop where
  share : v.share = u.share
  header : v.osc.header = u.osc.header
  target : v.grl.target = u.share.target
  outcome : HandOverOutcome u v

theorem out_decrease (im : Image) (o : Outlet) (n : Nat) (s : State) :
    (decrease im o n s).out o =
      { s.out o with
        grl := sendWord
          { (s.out o).grl with
            commanded := n, pending := none, unconfirmed := true, confirmTimer := s.timerIn im.confirmTimeout }
        mtf := { (s.out o).mtf with overDraw := 0 } } := out_modOut s o _

/-- A setpoint above 0 goes to 0 by the decrease path (R80, R84). -/
def loweredToZero (im : Image) (o : Outlet) (s : State) : State := if 0 < (s.out o).grl.commanded then decrease im o 0 s else s

theorem out_loweredToZero (im : Image) (o : Outlet) (s : State) :
    ((loweredToZero im o s).out o).grl.commanded = 0 ∧ ((loweredToZero im o s).out o).grl.target = (s.out o).grl.target ∧
      ((loweredToZero im o s).out o).osc = (s.out o).osc ∧ ((loweredToZero im o s).out o).share = (s.out o).share := by
  unfold loweredToZero
  split
  · simp only [out_decrease, sendWord_commanded, sendWord_target, and_self]
  · simp only [and_self, and_true]
    omega

theorem park_eq (im : Image) (o : Outlet) (s : State) :
    park im o s =
      (loweredToZero im o (setSession o .parked s)).modOut o fun u =>
        { u with grl.pending := none, grl.parkHold := .running ((loweredToZero im o (setSession o .parked s)).now + im.parkHold * 1000) } :=
  rfl

theorem out_park (im : Image) (o : Outlet) (s : State) :
    ((park im o s).out o).osc = { (s.out o).osc with state := .parked } ∧ ((park im o s).out o).share = (s.out o).share ∧
      ((park im o s).out o).grl.target = (s.out o).grl.target ∧ ((park im o s).out o).grl.commanded = 0 ∧
      ((park im o s).out o).grl.pending = none ∧ ((park im o s).out o).grl.parkHold ≠ .expired := by
  obtain ⟨commanded, target, osc, share⟩ := out_loweredToZero im o (setSession o .parked s)
  rw [setSession_out] at target osc share
  rw [park_eq, out_modOut]
  exact ⟨osc, share, target, commanded, rfl, nofun⟩

/-- The hand-over at a fitted outlet (R72). -/
theorem handedAt_handOverAt {im : Image} {o : Outlet} (fits : fitted im o = true) (s : State) :
    HandedAt (s.out o) ((handOverAt im o s).out o) := by
  have taken := out_modOut s o fun u => { u with grl.target := (s.out o).share.target }
  unfold handOverAt
  rw [if_pos fits]
  dsimp only
  generalize s.modOut o (fun u => { u with grl.target := (s.out o).share.target }) = w at taken
  have osc : (w.out o).osc = (s.out o).osc := by rw [taken]
  split
  · rename_i dispensing
    rw [osc] at dispensing
    split
    · obtain ⟨parked, share, target, commanded, pending, held⟩ := out_park im o w
      rw [taken] at share target parked
      exact ⟨share, by rw [parked], target, .parks dispensing (by rw [parked]) held commanded pending⟩
    · rename_i enough
      rw [osc, Nat.not_lt] at enough
      split
      · rename_i above
        rw [out_decrease, taken]
        refine ⟨rfl, rfl, sendWord_target _, .dispenses dispensing dispensing enough ?_ ?_⟩
        · rw [sendWord_commanded]; exact (Nat.min_eq_right above.le).symm
        · rw [sendWord_commanded, sendWord_pending, if_neg (Nat.lt_irrefl _)]
      · rename_i atMost
        have kept := (Nat.min_eq_left (Nat.not_lt.mp atMost)).symm
        split
        · rename_i below
          rw [setPending, out_modOut, taken]
          exact ⟨rfl, rfl, rfl, .dispenses dispensing dispensing enough kept (if_pos below).symm⟩
        · rename_i equal
          rw [setPending, out_modOut, taken]
          exact ⟨rfl, rfl, rfl, .dispenses dispensing dispensing enough kept (if_neg equal).symm⟩
  · rename_i parked
    rw [osc] at parked
    split
    · rename_i expired
      rw [resume, out_modOut, setSession_out, taken]
      refine ⟨rfl, rfl, rfl, .resumes parked ?_ rfl⟩
      rw [taken] at expired
      simp only [resumes, Bool.and_eq_true, beq_iff_eq] at expired
      exact expired.1
    · rw [taken]
      exact ⟨rfl, rfl, rfl, .waits (parked ▸ nofun) rfl rfl rfl (.inr rfl)⟩
  all_goals
    rename_i other
    rw [osc] at other
    rw [setPending, out_modOut, taken]
    exact ⟨rfl, rfl, rfl, .waits (other ▸ nofun) rfl rfl rfl (.inl rfl)⟩

theorem handOverAt_unfit {im : Image} {o : Outlet} (unfit : fitted im o = false) (s : State) : handOverAt im o s = s :=
  if_neg (by rw [unfit]; nofun)

/-- The hand-over of both outlets is one at each, from its own values (R72). -/
theorem out_handOver (im : Image) (s : State) (o : Outlet) :
    (fitted im o = true → HandedAt (s.out o) ((handOver im s).out o)) ∧
      (fitted im o = false → (handOver im s).out o = s.out o) := by
  rw [handOver, out_holdRises]
  cases o with
  | a =>
    have after := out_handOverAt_other im .b (handOverAt im .a s)
    rw [show (handOverAt im .b (handOverAt im .a s)).out .a = (handOverAt im .a s).out .a from after]
    exact ⟨fun fits => handedAt_handOverAt fits s, fun unfit => by rw [handOverAt_unfit unfit]⟩
  | b =>
    have before : (handOverAt im .a s).out .b = s.out .b := out_handOverAt_other im .a s
    exact ⟨fun fits => before ▸ handedAt_handOverAt fits _, fun unfit => by rw [handOverAt_unfit unfit, before]⟩

/-- One computation with its hand-over at each outlet (R46, R72). -/
theorem out_computeOnce (im : Image) (s : State) (o : Outlet) :
    (fitted im o = true → HandedAt { s.out o with share := shareResult im s o } ((computeOnce im s).out o)) ∧
      (fitted im o = false → (computeOnce im s).out o = { s.out o with share := shareResult im s o }) := by
  rw [computeOnce, noted, out_noteUpdate, ← out_compute]
  exact out_handOver im (compute im s) o

/-- A computation touches neither the roster nor what it has worked for the station. -/
theorem computeOnce_station (im : Image) (s : State) :
    (computeOnce im s).prs = s.prs ∧ (computeOnce im s).configured = s.configured ∧
      (computeOnce im s).shc = ⟨isolatedShare im s, availablePower im s, siteBusy im s⟩ := by
  have shared := shared_handOver im (compute im s)
  have besides := beside_handOver_compute im s
  have at_ : ∀ (o : Outlet) (u : State), (handOverAt im o u).shc = u.shc := fun o u => by
    unfold handOverAt park decrease resume setPending
    dsimp only
    split <;> (repeat' split) <;> simp
  have held : ∀ u : State, (holdRises im u).shc = u.shc := fun u => by
    unfold holdRises settleRises
    (repeat' split) <;> rfl
  rw [computeOnce, noted, noteUpdate_prs, noteUpdate_configured, noteUpdate_shc]
  refine ⟨besides.prs, besides.configured, ?_⟩
  rw [handOver, held, at_, at_]
  rfl

-- How many changes of session a computation can still make.

/-- The parkings and resumptions that hand-overs can still make at an outlet: a parking starts the park hold anew (R80, R82). -/
def changesAhead (u : OutletState) : Nat :=
  if u.osc.state = .dispensing then 1 else if u.osc.state = .parked ∧ u.grl.parkHold = .expired then 2 else 0

theorem changesAhead_le (u : OutletState) : changesAhead u ≤ 2 := by
  unfold changesAhead
  split
  · decide
  split <;> decide

/-- A hand-over keeps the session, or leaves fewer changes ahead. -/
theorem HandedAt.ahead {u v : OutletState} (h : HandedAt u v) :
    v.osc.state = u.osc.state ∧ changesAhead v = changesAhead u ∨ changesAhead v < changesAhead u := by
  unfold changesAhead
  cases h.outcome with
  | parks was is held => right; simp [was, is, held]
  | dispenses was is => left; simp [was, is]
  | resumes was expired is => right; simp [was, expired, is]
  | waits other same hold => left; simp [same, hold]

theorem computeOnce_ahead (im : Image) (s : State) (o : Outlet) :
    ((computeOnce im s).out o).osc.state = (s.out o).osc.state ∧ changesAhead ((computeOnce im s).out o) = changesAhead (s.out o) ∨
      changesAhead ((computeOnce im s).out o) < changesAhead (s.out o) := by
  obtain ⟨fits, unfit⟩ := out_computeOnce im s o
  cases fit : fitted im o with
  | true => exact (fits fit).ahead
  | false => rw [unfit fit]; exact .inl ⟨rfl, rfl⟩

/-- Enough computations end with one that changes no session; what each of them keeps holds before the last. -/
theorem computations_settle {im : Image} {P : State → Prop} (keeps : ∀ u, P u → P (computeOnce im u)) (n : Nat) (s : State) (h : P s)
    (enough : changesAhead (s.out .a) + changesAhead (s.out .b) < n) :
    ∃ u, computations im n s = computeOnce im u ∧ sessions (computeOnce im u) = sessions u ∧ P u := by
  induction n generalizing s with
  | zero => exact absurd enough (Nat.not_lt_zero _)
  | succ n ih =>
    unfold computations
    dsimp only
    split
    · exact ⟨s, rfl, ‹_›, h⟩
    · rename_i changed
      refine ih _ (keeps s h) ?_
      rcases computeOnce_ahead im s .a with ⟨sameA, a⟩ | a <;> rcases computeOnce_ahead im s .b with ⟨sameB, b⟩ | b
      · exact absurd (Prod.ext sameA sameB) changed
      all_goals omega

/-- A computation ends with a hand-over that parks and resumes no outlet (R72; log 15). -/
theorem computation_settles {im : Image} {P : State → Prop} (keeps : ∀ u, P u → P (computeOnce im u)) {s : State} (h : P s) :
    ∃ u, computation im s = computeOnce im u ∧ sessions (computeOnce im u) = sessions u ∧ P u :=
  computations_settle keeps 5 s h
    (Nat.lt_of_le_of_lt (Nat.add_le_add (changesAhead_le _) (changesAhead_le _)) (by decide))

end Sys2Proof.Machine
end

section
/-! SUPPORT. What the share result and the grants are after an event (`Served`): an event leaves them and their inputs as they are, raises
within the headroom, or ends in a computation; with the three invariants that each of these keeps. -/

namespace Sys2Proof.Machine

-- The invariants, for a part that runs on an image.

/-- A fitted outlet in DISPENSING, or no setpoint and no pending rise (R69, R84). -/
def WithheldAt (im : Image) (o : Outlet) (u : OutletState) : Prop :=
  ¬(fitted im o = true ∧ u.osc.state = .dispensing) → u.grl.commanded = 0 ∧ u.grl.pending = none

/-- Neither outlet has a setpoint or a pending rise without a fitted outlet in DISPENSING (R69, R84). -/
def Withheld (im : Image) (s : State) : Prop := ∀ o, WithheldAt im o (s.out o)

/-- The share result is the one its inputs give (R45, R46). -/
def SharesFollow (im : Image) (s : State) : Prop :=
  s.shc = ⟨isolatedShare im s, availablePower im s, siteBusy im s⟩ ∧ ∀ o, (s.out o).share = shareResult im s o

/-- The grant values are those that the hand-over of the targets leaves (R72). -/
def GrantsFollow (im : Image) (s : State) : Prop :=
  ∀ o, fitted im o = true →
    (s.out o).grl.target = (s.out o).share.target ∧
      ((s.out o).osc.state = .dispensing →
        (s.out o).osc.header.floor ≤ (s.out o).grl.target ∧ (s.out o).grl.commanded ≤ (s.out o).grl.target ∧
          (s.out o).grl.pending =
            if (s.out o).grl.commanded < (s.out o).grl.target then some (s.out o).grl.target else none)

/-- Outside JOINED the setpoints are together within iso (R88). -/
def Capped (im : Image) (s : State) : Prop :=
  s.shc.iso = isolatedShare im s ∧ (s.prs.mode ≠ .joined → stationCommanded s ≤ s.shc.iso)

-- The inputs of the share result (R46).

theorem shareChanged_eq_false {x y : Prs} :
    shareChanged x y = false ↔
      x.roster.map watchedEntry = y.roster.map watchedEntry ∧ x.nEff = y.nEff ∧ x.unseen = y.unseen ∧ x.lEff = y.lEff ∧
        x.mode = y.mode := by
  simp only [shareChanged, Bool.or_eq_false_iff, bne_eq_false_iff_eq, and_assoc]

/-- The session state, demand and tier of each outlet and what the Share Calculator watches of the roster are as they were (R41, R46). -/
structure SameInputs (s t : State) : Prop where
  prs : shareChanged s.prs t.prs = false
  state : ∀ o, (t.out o).osc.state = (s.out o).osc.state
  demand : ∀ o, (t.out o).osc.header.demand = (s.out o).osc.header.demand
  tier : ∀ o, (t.out o).osc.header.tier = (s.out o).osc.header.tier

/-- What is worked from the watched parts of a roster's entries is the same where those are. -/
theorem filter_map_of_watched {α β γ : Type} {f : α → β} {xs ys : List α} (h : xs.map f = ys.map f) (p : β → Bool) (g : β → γ) :
    (ys.filter (p ∘ f)).map (g ∘ f) = (xs.filter (p ∘ f)).map (g ∘ f) := by
  rw [← List.map_map, ← List.filter_map, ← h, List.filter_map, List.map_map]

section
variable {im : Image} {s t : State} (h : SameInputs s t)
include h

theorem SameInputs.isolatedShare : isolatedShare im t = isolatedShare im s := by
  obtain ⟨-, nEff, -, lEff, -⟩ := shareChanged_eq_false.mp h.prs
  rw [Machine.isolatedShare, Machine.isolatedShare, nEff, lEff]

theorem SameInputs.staleReservation : staleReservation t = staleReservation s := by
  obtain ⟨roster, -⟩ := shareChanged_eq_false.mp h.prs
  exact congrArg (fun l : List Nat => min 40000 l.sum)
    (filter_map_of_watched roster (fun w => !w.2.1) fun w => max w.2.2.2.2.2.1 w.2.2.2.2.2.2.1)

theorem SameInputs.peerClaimants : peerClaimants t = peerClaimants s := by
  obtain ⟨roster, -⟩ := shareChanged_eq_false.mp h.prs
  rw [Machine.peerClaimants, Machine.peerClaimants, List.flatMap_def, List.flatMap_def]
  exact congrArg List.flatten (filter_map_of_watched roster (fun w => w.2.1) fun w =>
    (peerClaimant w.2.2.1).toList ++ (peerClaimant w.2.2.2.1).toList)

theorem SameInputs.availablePower : availablePower im t = availablePower im s := by
  obtain ⟨-, -, unseen, lEff, mode⟩ := shareChanged_eq_false.mp h.prs
  rw [Machine.availablePower, Machine.availablePower, h.staleReservation, h.isolatedShare, unseen, lEff, mode]

theorem SameInputs.rawDemand : rawDemand im t = rawDemand im s := funext fun o => by
  rw [rawDemand_eq, rawDemand_eq, h.state, h.demand]

theorem SameInputs.sessionWeight : sessionWeight im t = sessionWeight im s := funext fun o => by
  rw [Machine.sessionWeight, Machine.sessionWeight, h.tier]

theorem SameInputs.claims (added : Option Outlet) : claims t added = claims s added := funext fun o => by
  rw [Machine.claims, Machine.claims, h.state]

theorem SameInputs.splitDemand (added : Option Outlet) : splitDemand im t added = splitDemand im s added := funext fun o => by
  rw [Machine.splitDemand, Machine.splitDemand, pedestalClaimants_eq, pedestalClaimants_eq, h.rawDemand, h.sessionWeight, h.claims]

theorem SameInputs.siteClaimants (added : Option Outlet) : siteClaimants im t added = siteClaimants im s added := by
  obtain ⟨-, -, -, -, mode⟩ := shareChanged_eq_false.mp h.prs
  have own : ownClaimants im t added = ownClaimants im s added := by
    rw [ownClaimants_eq, ownClaimants_eq, h.splitDemand, h.sessionWeight]
  rw [Machine.siteClaimants, Machine.siteClaimants, own, h.peerClaimants, mode]

theorem SameInputs.siteShare (added : Option Outlet) (o : Outlet) : siteShare im t added o = siteShare im s added o := by
  rw [Machine.siteShare, Machine.siteShare, h.availablePower, h.siteClaimants]

theorem SameInputs.siteBusy : siteBusy im t = siteBusy im s := by
  obtain ⟨-, -, -, lEff, mode⟩ := shareChanged_eq_false.mp h.prs
  rw [Machine.siteBusy, Machine.siteBusy, h.siteClaimants, lEff, mode]

theorem SameInputs.shareResult (o : Outlet) : shareResult im t o = shareResult im s o := by
  rw [Machine.shareResult, Machine.shareResult, hypotheticalShare, hypotheticalShare, h.rawDemand, h.splitDemand, h.siteShare,
    h.siteShare, h.state]

end

-- What an event leaves of the share result and the grants.

/-- What the invariants look at of an outlet. -/
def grantPart (u : OutletState) : Share × Session × (Nat × Nat × Nat) × Nat × Nat × Option Nat :=
  (u.share, u.osc.state, (u.osc.header.demand, u.osc.header.floor, u.osc.header.tier), u.grl.target, u.grl.commanded, u.grl.pending)

theorem grantPart_eq {u v : OutletState} :
    grantPart v = grantPart u ↔
      v.share = u.share ∧ v.osc.state = u.osc.state ∧
        (v.osc.header.demand = u.osc.header.demand ∧ v.osc.header.floor = u.osc.header.floor ∧
          v.osc.header.tier = u.osc.header.tier) ∧
        v.grl.target = u.grl.target ∧ v.grl.commanded = u.grl.commanded ∧ v.grl.pending = u.grl.pending := by
  simp only [grantPart, Prod.mk.injEq]

/-- The share result, its inputs and the grants are as they were. -/
structure Unmoved (s t : State) : Prop where
  configured : t.configured = s.configured
  shc : t.shc = s.shc
  prs : shareChanged s.prs t.prs = false
  outlet : ∀ o, grantPart (t.out o) = grantPart (s.out o)

theorem Unmoved.refl (s : State) : Unmoved s s := ⟨rfl, rfl, shareChanged_eq_false.mpr ⟨rfl, rfl, rfl, rfl, rfl⟩, fun _ => rfl⟩

theorem Unmoved.trans {s t u : State} (h : Unmoved s t) (k : Unmoved t u) : Unmoved s u := by
  obtain ⟨roster, nEff, unseen, lEff, mode⟩ := shareChanged_eq_false.mp h.prs
  obtain ⟨roster', nEff', unseen', lEff', mode'⟩ := shareChanged_eq_false.mp k.prs
  exact ⟨k.configured.trans h.configured, k.shc.trans h.shc,
    shareChanged_eq_false.mpr ⟨roster.trans roster', nEff.trans nEff', unseen.trans unseen', lEff.trans lEff', mode.trans mode'⟩,
    fun o => (k.outlet o).trans (h.outlet o)⟩

theorem Unmoved.of_outlets {s t : State} (configured : t.configured = s.configured) (shc : t.shc = s.shc) (prs : t.prs = s.prs)
    (a : t.outA = s.outA) (b : t.outB = s.outB) : Unmoved s t :=
  ⟨configured, shc, prs ▸ (Unmoved.refl s).prs, fun o => by cases o <;> simp [a, b]⟩

theorem Unmoved.inputs {s t : State} (h : Unmoved s t) : SameInputs s t := by
  refine ⟨h.prs, fun o => ?_, fun o => ?_, fun o => ?_⟩ <;> obtain ⟨-, state, ⟨demand, -, tier⟩, -⟩ := grantPart_eq.mp (h.outlet o)
  · exact state
  · exact demand
  · exact tier

theorem Unmoved.withheld {im : Image} {s t : State} (h : Unmoved s t) (k : Withheld im s) : Withheld im t := fun o => by
  obtain ⟨-, state, -, -, commanded, pending⟩ := grantPart_eq.mp (h.outlet o)
  have at_ := k o
  unfold WithheldAt at *
  rwa [state, commanded, pending]

theorem Unmoved.sharesFollow {im : Image} {s t : State} (h : Unmoved s t) (k : SharesFollow im s) : SharesFollow im t := by
  obtain ⟨station, outlet⟩ := k
  refine ⟨?_, fun o => ?_⟩
  · rw [h.shc, station, h.inputs.isolatedShare, h.inputs.availablePower, h.inputs.siteBusy]
  · rw [(grantPart_eq.mp (h.outlet o)).1, outlet o, h.inputs.shareResult]

theorem Unmoved.grantsFollow {im : Image} {s t : State} (h : Unmoved s t) (k : GrantsFollow im s) : GrantsFollow im t := fun o fits => by
  obtain ⟨share, state, ⟨-, floor, -⟩, target, commanded, pending⟩ := grantPart_eq.mp (h.outlet o)
  rw [share, state, floor, target, commanded, pending]
  exact k o fits

theorem Unmoved.stationCommanded {s t : State} (h : Unmoved s t) : stationCommanded t = stationCommanded s := by
  obtain ⟨-, -, -, -, a, -⟩ := grantPart_eq.mp (h.outlet .a)
  obtain ⟨-, -, -, -, b, -⟩ := grantPart_eq.mp (h.outlet .b)
  exact congrArg₂ (· + ·) a b

theorem Unmoved.capped {im : Image} {s t : State} (h : Unmoved s t) (k : Capped im s) : Capped im t := by
  obtain ⟨-, -, -, -, mode⟩ := shareChanged_eq_false.mp h.prs
  rw [Capped, h.shc, h.inputs.isolatedShare, ← mode, h.stationCommanded]
  exact k

-- Rises (R78).

/-- An outlet's grants after rises: as they were, or raised up to the pending rise. -/
structure Risen (u v : OutletState) : Prop where
  share : v.share = u.share
  osc : v.osc = u.osc
  target : v.grl.target = u.grl.target
  raised : v.grl.commanded = u.grl.commanded ∧ v.grl.pending = u.grl.pending ∨
    ∃ p, u.grl.pending = some p ∧ v.grl.commanded ≤ p ∧ v.grl.pending = if v.grl.commanded < p then some p else none

theorem Risen.refl (u : OutletState) : Risen u u := ⟨rfl, rfl, rfl, .inl ⟨rfl, rfl⟩⟩

theorem Risen.trans {u v w : OutletState} (h : Risen u v) (k : Risen v w) : Risen u w := by
  refine ⟨k.share.trans h.share, k.osc.trans h.osc, k.target.trans h.target, ?_⟩
  rcases k.raised with ⟨commanded, pending⟩ | ⟨p, was, most, pending⟩
  · rw [commanded, pending]
    exact h.raised
  · rcases h.raised with ⟨-, pending'⟩ | ⟨q, was', -, pending'⟩
    · exact .inr ⟨p, pending' ▸ was, most, pending⟩
    · rw [pending'] at was
      split at was
      · obtain rfl := Option.some.inj was
        exact .inr ⟨q, was', most, pending⟩
      · nomatch was

theorem risen_raiseBy (im : Image) {s : State} {o : Outlet} {p : Nat} (pending : (s.out o).grl.pending = some p) (left : Nat)
    (some : 1 ≤ min im.riseStep (min (p - (s.out o).grl.commanded) left)) (x : Outlet) :
    Risen (s.out x) ((raiseBy o (min im.riseStep (min (p - (s.out o).grl.commanded) left)) s).out x) := by
  generalize k : min im.riseStep (min (p - (s.out o).grl.commanded) left) = n at some
  by_cases same : x = o
  · subst same
    rw [raiseBy, out_modOut]
    have most : (s.out x).grl.commanded + n ≤ p := by omega
    refine ⟨rfl, rfl, sendWord_target _, .inr ⟨p, pending, ?_, ?_⟩⟩
    · rw [sendWord_commanded]; exact most
    · rw [sendWord_pending, sendWord_commanded]
      rcases Nat.eq_or_lt_of_le most with all | below
      · simp [pending, all]
      · simp [pending, below, below.ne']
  · obtain rfl : x = otherOutlet o := by cases x <;> cases o <;> simp_all [otherOutlet]
    rw [raiseBy, out_modOut_other]
    exact .refl _

theorem risen_serveRises (im : Image) (xs : List Outlet) (n : Nat) (s : State) (o : Outlet) :
    Risen (s.out o) ((serveRises im xs n s).out o) := by
  induction xs generalizing n s with
  | nil => exact .refl _
  | cons x xs ih =>
    unfold serveRises
    split
    · exact ih n s
    · rename_i p pending
      dsimp only
      split
      · exact (risen_raiseBy im pending n ‹_› o).trans (ih _ _)
      · exact ih n s

theorem risen_evaluateRises (im : Image) (s : State) (o : Outlet) : Risen (s.out o) ((evaluateRises im s).out o) := by
  have served := risen_serveRises im s.grl.order (allowance im s) s o
  cases o <;> exact served

theorem evaluateRises_shc (im : Image) (s : State) : (evaluateRises im s).shc = s.shc := by
  have served : ∀ xs n u, (serveRises im xs n u).shc = u.shc := by
    intro xs
    induction xs with
    | nil => exact fun _ _ => rfl
    | cons x xs ih =>
      intro n u
      unfold serveRises
      split
      · exact ih n u
      · dsimp only
        split
        · exact (ih _ _).trans (modOut_shc ..)
        · exact ih n u
  exact served ..

theorem sameInputs_evaluateRises (im : Image) (s : State) : SameInputs s (evaluateRises im s) := by
  have risen := risen_evaluateRises im s
  refine ⟨(beside_evaluateRises im s).prs ▸ (Unmoved.refl s).prs, fun o => ?_, fun o => ?_, fun o => ?_⟩ <;> rw [(risen o).osc]

theorem Withheld.evaluateRises {im : Image} {s : State} (h : Withheld im s) : Withheld im (evaluateRises im s) := fun o idle => by
  have risen := risen_evaluateRises im s o
  rw [risen.osc] at idle
  obtain ⟨commanded, pending⟩ := h o idle
  rcases risen.raised with ⟨commanded', pending'⟩ | ⟨p, was, -⟩
  · exact ⟨commanded'.trans commanded, pending'.trans pending⟩
  · rw [pending] at was; nomatch was

theorem SharesFollow.evaluateRises {im : Image} {s : State} (h : SharesFollow im s) : SharesFollow im (evaluateRises im s) := by
  have same := sameInputs_evaluateRises im s
  obtain ⟨station, outlet⟩ := h
  refine ⟨?_, fun o => ?_⟩
  · rw [evaluateRises_shc, station, same.isolatedShare, same.availablePower, same.siteBusy]
  · rw [(risen_evaluateRises im s o).share, outlet o, same.shareResult]

theorem GrantsFollow.evaluateRises {im : Image} {s : State} (h : GrantsFollow im s) : GrantsFollow im (evaluateRises im s) :=
  fun o fits => by
    obtain ⟨target, dispenses⟩ := h o fits
    have risen := risen_evaluateRises im s o
    rw [risen.target, risen.share, risen.osc]
    refine ⟨target, fun dispensing => ?_⟩
    obtain ⟨floor, most, pending⟩ := dispenses dispensing
    refine ⟨floor, ?_⟩
    rcases risen.raised with ⟨commanded, pending'⟩ | ⟨p, was, most', pending'⟩
    · rw [commanded, pending']
      exact ⟨most, pending⟩
    · rw [pending] at was
      split at was
      · obtain rfl := Option.some.inj was
        exact ⟨most', pending'⟩
      · nomatch was

theorem Capped.evaluateRises {im : Image} {s : State} (h : Capped im s) : Capped im (evaluateRises im s) := by
  obtain ⟨iso, cap⟩ := h
  have bound := stationCommanded_evaluateRises im s
  refine ⟨?_, fun other => ?_⟩
  · rw [evaluateRises_shc, iso, (sameInputs_evaluateRises im s).isolatedShare]
  · rw [(beside_evaluateRises im s).prs] at other
    have kept := cap other
    rw [headroom_not_joined other, ← iso] at bound
    rw [evaluateRises_shc]
    omega

-- An outlet that does not claim loses its grants (R87).

theorem modOut_out (s : State) (o x : Outlet) (f : OutletState → OutletState) :
    (s.modOut o f).out x = if x = o then f (s.out o) else s.out x := by
  cases o <;> cases x <;> rfl

theorem withheldAt_of_none {im : Image} {o : Outlet} {u : OutletState} (commanded : u.grl.commanded = 0) (pending : u.grl.pending = none) :
    WithheldAt im o u := fun _ => ⟨commanded, pending⟩

theorem sameInputs_grantless (s : State) (o : Outlet) : SameInputs s (s.modOut o grantless) := by
  refine ⟨by rw [modOut_prs]; exact (Unmoved.refl s).prs, fun x => ?_, fun x => ?_, fun x => ?_⟩ <;>
    (rw [modOut_out]; split <;> simp_all [grantless])

theorem Withheld.grantless {im : Image} {s : State} (h : Withheld im s) (o : Outlet) : Withheld im (s.modOut o grantless) := fun x => by
  rw [modOut_out]
  split
  · exact withheldAt_of_none rfl rfl
  · exact h x

theorem SharesFollow.grantless {im : Image} {s : State} (h : SharesFollow im s) (o : Outlet) : SharesFollow im (s.modOut o grantless) := by
  have same := sameInputs_grantless s o
  obtain ⟨station, outlet⟩ := h
  refine ⟨?_, fun x => ?_⟩
  · rw [modOut_shc, station, same.isolatedShare, same.availablePower, same.siteBusy]
  · rw [same.shareResult, ← outlet x, modOut_out]
    split
    · subst x; rfl
    · rfl

theorem GrantsFollow.grantless {im : Image} {s : State} (h : GrantsFollow im s) (k : SharesFollow im s) {o : Outlet}
    (claimless : Claimless (s.out o)) : GrantsFollow im (s.modOut o grantless) := fun x fits => by
  rw [modOut_out]
  split
  · have share : (s.out o).share.target = 0 := by rw [k.2 o, shareResult_of_claimless claimless]
    exact ⟨share.symm, fun dispensing => absurd dispensing claimless.1⟩
  · exact h x fits

theorem Capped.grantless {im : Image} {s : State} (h : Capped im s) (o : Outlet) : Capped im (s.modOut o grantless) := by
  obtain ⟨iso, cap⟩ := h
  have lower : stationCommanded (s.modOut o Machine.grantless) ≤ stationCommanded s := by
    cases o <;> simp [stationCommanded, Machine.grantless]
  refine ⟨?_, fun other => ?_⟩
  · rw [modOut_shc, iso, (sameInputs_grantless s o).isolatedShare]
  · rw [modOut_shc]
    exact lower.trans (cap (by rwa [modOut_prs] at other))

-- A computation (R46, R47, R72).

theorem Withheld.computeOnce {im : Image} {s : State} (h : Withheld im s) : Withheld im (computeOnce im s) := fun o => by
  obtain ⟨fits, unfit⟩ := out_computeOnce im s o
  cases fit : fitted im o with
  | false => rw [unfit fit]; exact h o
  | true =>
    intro idle
    cases (fits fit).outcome with
    | parks _ _ _ commanded pending => exact ⟨commanded, pending⟩
    | dispenses _ is => exact absurd ⟨fit, is⟩ idle
    | resumes _ _ is => exact absurd ⟨fit, is⟩ idle
    | waits other _ _ commanded pending =>
      obtain ⟨zero, none⟩ := h o fun n => other n.2
      exact ⟨commanded.trans zero, pending.elim id fun same => same.trans none⟩

/-- Once no session changes, the share result and the grants follow their inputs (R46, R47, R72). -/
theorem follow_computeOnce {im : Image} {s : State} (same : sessions (computeOnce im s) = sessions s) :
    SharesFollow im (computeOnce im s) ∧ GrantsFollow im (computeOnce im s) := by
  obtain ⟨prs, -, shc⟩ := computeOnce_station im s
  have state : ∀ o, ((computeOnce im s).out o).osc.state = (s.out o).osc.state := fun o => by
    cases o with
    | a => exact congrArg Prod.fst same
    | b => exact congrArg Prod.snd same
  have kept : ∀ o, ((computeOnce im s).out o).osc.header = (s.out o).osc.header ∧
      ((computeOnce im s).out o).share = shareResult im s o := fun o => by
    obtain ⟨fits, unfit⟩ := out_computeOnce im s o
    cases fit : fitted im o with
    | true => exact ⟨(fits fit).header, (fits fit).share⟩
    | false => rw [unfit fit]; exact ⟨rfl, rfl⟩
  have inputs : SameInputs s (computeOnce im s) :=
    ⟨prs ▸ (Unmoved.refl s).prs, state, fun o => by rw [(kept o).1], fun o => by rw [(kept o).1]⟩
  refine ⟨⟨?_, fun o => ?_⟩, fun o fit => ?_⟩
  · rw [shc, inputs.isolatedShare, inputs.availablePower, inputs.siteBusy]
  · rw [(kept o).2, inputs.shareResult]
  · have handed := (out_computeOnce im s o).1 fit
    rw [handed.target, handed.share]
    refine ⟨rfl, fun dispensing => ?_⟩
    cases handed.outcome with
    | parks _ is => rw [is] at dispensing; nomatch dispensing
    | dispenses _ _ floor commanded pending =>
      rw [handed.header]
      exact ⟨floor, commanded.le.trans (Nat.min_le_right _ _), pending⟩
    | resumes was => rw [state o] at dispensing; rw [dispensing] at was; nomatch was
    | waits other is => rw [is] at dispensing; exact absurd dispensing other

theorem follow_computation (im : Image) (s : State) : SharesFollow im (computation im s) ∧ GrantsFollow im (computation im s) := by
  obtain ⟨u, last, same, -⟩ := computation_settles (im := im) (P := fun _ => True) (fun _ _ => trivial) (s := s) trivial
  rw [last]
  exact follow_computeOnce same

theorem Withheld.computation {im : Image} {s : State} (h : Withheld im s) : Withheld im (computation im s) := by
  obtain ⟨u, last, -, k⟩ := computation_settles (fun _ k => Withheld.computeOnce k) h
  rw [last]
  exact k.computeOnce

/-- Where the setpoints are at most the targets, they are together within what the Share Calculator has available (R61, R88). -/
theorem capped_of_follow {im : Image} {s : State} (withheld : Withheld im s) (shares : SharesFollow im s) (grants : GrantsFollow im s) :
    Capped im s := by
  have most : ∀ o, (s.out o).grl.commanded ≤ siteShare im s none o := fun o => by
    by_cases dispenses : fitted im o = true ∧ (s.out o).osc.state = .dispensing
    · obtain ⟨target, follows⟩ := grants o dispenses.1
      obtain ⟨-, commanded, -⟩ := follows dispenses.2
      rw [target, shares.2 o] at commanded
      exact commanded
    · exact (withheld o dispenses).1.le.trans (Nat.zero_le _)
  refine ⟨by rw [shares.1], fun other => ?_⟩
  have both := siteShare_add_le im s none
  rw [availablePower_not_joined other] at both
  rw [shares.1]
  exact (Nat.add_le_add (most .a) (most .b)).trans both

-- The chain of an event's effects.

/-- From `s` to `t` the share result and the grants follow what happens: nothing to them, rises, an outlet without a claim loses its grants,
or a computation, which may make good whatever came before it but a setpoint outside DISPENSING. -/
inductive Served (im : Image) : State → State → Prop
  | same {s t : State} (h : Unmoved s t) : Served im s t
  | rises (s : State) : Served im s (evaluateRises im s)
  | cleared {s : State} {o : Outlet} (h : Claimless (s.out o)) : Served im s (s.modOut o grantless)
  | computed {s u : State} (configured : u.configured = s.configured) (h : Withheld im s → Withheld im u) :
      Served im s (computation im u)
  | trans {s t u : State} (h : Served im s t) (k : Served im t u) : Served im s u

theorem Served.refl (im : Image) (s : State) : Served im s s := .same (.refl s)

section
variable {im : Image} {s t : State} (h : Served im s t)
include h

theorem Served.configured : t.configured = s.configured := by
  induction h with
  | same h => exact h.configured
  | rises s => exact (beside_evaluateRises im s).configured
  | cleared => exact modOut_configured ..
  | computed configured => rw [(shared_computation im _).1]; exact configured
  | trans _ _ h k => exact k.trans h

theorem Served.withheld (k : Withheld im s) : Withheld im t := by
  induction h with
  | same h => exact h.withheld k
  | rises s => exact k.evaluateRises
  | cleared => exact k.grantless _
  | computed _ h => exact (h k).computation
  | trans _ _ ih ih' => exact ih' (ih k)

theorem Served.follow (k : SharesFollow im s ∧ GrantsFollow im s) : SharesFollow im t ∧ GrantsFollow im t := by
  induction h with
  | same h => exact ⟨h.sharesFollow k.1, h.grantsFollow k.2⟩
  | rises s => exact ⟨k.1.evaluateRises, k.2.evaluateRises⟩
  | cleared claimless => exact ⟨k.1.grantless _, k.2.grantless k.1 claimless⟩
  | computed => exact follow_computation im _
  | trans _ _ ih ih' => exact ih' (ih k)

theorem Served.capped (w : Withheld im s) (k : Capped im s) : Capped im t := by
  induction h with
  | same h => exact h.capped k
  | rises s => exact k.evaluateRises
  | cleared => exact k.grantless _
  | @computed _ u _ h =>
    obtain ⟨shares, grants⟩ := follow_computation im u
    exact capped_of_follow (h w).computation shares grants
  | trans h _ ih ih' => exact ih' (h.withheld w) (ih w k)

end

end Sys2Proof.Machine
end

section
/-! SUPPORT. The effects of the events at an outlet (spec/04, spec/05) as the share and the grants see them: each keeps setpoints to DISPENSING,
and serves the share where it changes no session (`Effect`). -/

namespace Sys2Proof.Machine

-- What leaves the share and the grants alone.

theorem unmoved_modOut (s : State) (o : Outlet) (f : OutletState → OutletState) (h : grantPart (f (s.out o)) = grantPart (s.out o)) :
    Unmoved s (s.modOut o f) := by
  refine ⟨modOut_configured .., modOut_shc .., by rw [modOut_prs]; exact (Unmoved.refl s).prs, fun x => ?_⟩
  rw [modOut_out]
  split
  · subst x; exact h
  · rfl

theorem unmoved_noteUpdate (im : Image) (before : Announced) (s : State) : Unmoved s (noteUpdate im before s) :=
  .of_outlets (by simp) (by simp) (by simp) (by simp) (by simp)

theorem unmoved_settleRises (s : State) : Unmoved s (settleRises s) := by
  unfold settleRises
  split
  · exact .of_outlets rfl rfl rfl rfl rfl
  · exact .refl s

theorem unmoved_raise (f : EventFlag) (s : State) : Unmoved s (raise f s) := .of_outlets rfl rfl rfl rfl rfl

theorem unmoved_respond (x : Status) (code : Nat) (p : List Byte) (s : State) : Unmoved s (respond x code p s) :=
  .of_outlets rfl rfl rfl rfl rfl

-- Setpoints stay with DISPENSING outlets (R69, R84).

/-- An event at one outlet keeps the setpoints where it does so at that outlet. -/
theorem Withheld.at_outlet {im : Image} {o : Outlet} {s t : State} (h : Withheld im s)
    (other : t.out (otherOutlet o) = s.out (otherOutlet o)) (own : WithheldAt im o (t.out o)) : Withheld im t := fun x => by
  by_cases same : x = o
  · exact same ▸ own
  · obtain rfl : x = otherOutlet o := by cases x <;> cases o <;> simp_all [otherOutlet]
    rw [other]
    exact h _

/-- The setpoint and the pending rise are as they were, and an outlet that left its state was not dispensing. -/
theorem WithheldAt.congr {im : Image} {o : Outlet} {u v : OutletState} (h : WithheldAt im o u) (commanded : v.grl.commanded = u.grl.commanded)
    (pending : v.grl.pending = u.grl.pending) (state : v.osc.state = u.osc.state ∨ u.osc.state ≠ .dispensing) : WithheldAt im o v := by
  intro idle
  rw [commanded, pending]
  refine h fun dispenses => ?_
  rcases state with same | other
  · exact idle (by rw [same]; exact dispenses)
  · exact other dispenses.2

theorem withdraw_eq (im : Image) (o : Outlet) (s : State) :
    withdraw im o s =
      settleRises ((loweredToZero im o s).modOut o fun u => { u with grl.pending := none, grl.parkHold := .stopped }) := rfl

theorem out_settleRises (s : State) (o : Outlet) : (settleRises s).out o = s.out o := by
  unfold settleRises
  split
  · cases o <;> rfl
  · rfl

theorem out_withdraw_other (im : Image) (o : Outlet) (s : State) :
    (withdraw im o s).out (otherOutlet o) = s.out (otherOutlet o) := by
  rw [withdraw_eq, out_settleRises, out_modOut_other, loweredToZero]
  split
  · exact out_decrease_other im o 0 s
  · rfl

/-- An outlet that leaves DISPENSING loses its setpoint and its pending rise (R84). -/
theorem out_withdraw (im : Image) (o : Outlet) (s : State) :
    ((withdraw im o s).out o).grl.commanded = 0 ∧ ((withdraw im o s).out o).grl.pending = none ∧
      ((withdraw im o s).out o).osc = (s.out o).osc := by
  obtain ⟨commanded, -, osc, -⟩ := out_loweredToZero im o s
  rw [withdraw_eq, out_settleRises, out_modOut]
  exact ⟨commanded, rfl, osc⟩

/-- A completed close leaves its outlet without grants and the other as it was (R87). -/
theorem out_completeClose (o : Outlet) (s : State) :
    ((completeClose o s).out o).grl.commanded = 0 ∧ ((completeClose o s).out o).grl.pending = none ∧
      (completeClose o s).out (otherOutlet o) = s.out (otherOutlet o) := by
  have recorded : ∀ (r : Record) (u : State), (settleRecord o r u).out (otherOutlet o) = u.out (otherOutlet o) := fun r u => by
    unfold settleRecord
    split
    · rw [out_setSession_other, out_enterQueue]
    · rw [out_setSession_other]; exact out_modOut_other u o _
  rw [completeClose_eq, clearGrants_out]
  refine ⟨rfl, rfl, ?_⟩
  rw [(clearGrants_keeps o _).2.1, recorded, out_modOut_other]

theorem Withheld.completeClose {im : Image} {s : State} (h : Withheld im s) (o : Outlet) : Withheld im (completeClose o s) := by
  obtain ⟨commanded, pending, other⟩ := out_completeClose o s
  exact h.at_outlet other (withheldAt_of_none commanded pending)

theorem unmoved_waitsOpen (im : Image) (o : Outlet) (now : Nat) (s : State) : Unmoved s (s.modOut o (waitsOpen im now)) :=
  unmoved_modOut s o _ rfl

theorem Withheld.beginOpenWait {im : Image} {s : State} (h : Withheld im s) (o : Outlet) : Withheld im (beginOpenWait im o s) := by
  have opens := (unmoved_waitsOpen im o s.now s).withheld h
  cases closed : (s.out o).feedback.level with
  | true => rw [beginOpenWait_closed closed]; exact opens
  | false => rw [beginOpenWait_open closed]; exact opens.completeClose o

theorem Withheld.noted {im : Image} {f : State → State} {s : State} (h : Withheld im (f s)) : Withheld im (noted im f s) :=
  (unmoved_noteUpdate im _ _).withheld h

theorem Withheld.reportOutput {im : Image} {s : State} (h : Withheld im s) (o : Outlet) : Withheld im (reportOutput im o s) := by
  unfold Machine.reportOutput
  split
  · exact (h.beginOpenWait o).noted
  · exact h

theorem Withheld.acceptClose {im : Image} {s : State} (h : Withheld im s) (o : Outlet) : Withheld im (acceptClose im o s) := by
  unfold Machine.acceptClose
  dsimp only
  have other : ∀ f, (setSession o .closing (s.modOut o f)).out (otherOutlet o) = s.out (otherOutlet o) := fun f => by
    rw [out_setSession_other, out_modOut_other]
  split
  · rename_i tripped
    refine Withheld.beginOpenWait (h.at_outlet (other _) ?_) o
    rw [setSession_out, out_modOut]
    exact (h o).congr rfl rfl (.inr (tripped ▸ nofun))
  · refine Withheld.reportOutput (h.at_outlet (o := o) ?_ ?_) o
    · rw [out_withdraw_other, out_modOut_other, other]
    · obtain ⟨commanded, pending, -⟩ := out_withdraw im o _
      exact withheldAt_of_none commanded pending

theorem Withheld.enterDwell {im : Image} {s : State} (h : Withheld im s) (o : Outlet) : Withheld im (enterDwell im o s) := by
  obtain ⟨commanded, pending, -⟩ := out_withdraw im o _
  refine h.at_outlet ?_ (withheldAt_of_none commanded pending)
  rw [Machine.enterDwell, out_withdraw_other, out_setSession_other, out_modOut_other]

theorem Withheld.acceptOpen {im : Image} {s : State} (h : Withheld im s) {o : Outlet} (idle : (s.out o).osc.state = .idle) (x : Header) :
    Withheld im (acceptOpen im o x s) := by
  refine h.at_outlet (acceptOpen_keeps im o x s).2 ((h o).congr ?_ ?_ (.inr (idle ▸ nofun))) <;> cases o <;> rfl

theorem Withheld.replaceDemand {im : Image} {s : State} (h : Withheld im s) (o : Outlet) (d f : Nat) :
    Withheld im (replaceDemand o d f s) := by
  refine h.at_outlet (out_modOut_other s o _) ?_
  rw [Machine.replaceDemand, out_modOut]
  exact (h o).congr rfl rfl (.inl rfl)

theorem Withheld.takeDemand {im : Image} {s t : State} (h : Withheld im s) {o : Outlet} {d f : Nat}
    (taken : takeDemand o d f s = some t) : Withheld im t := by
  have replaced := h.replaceDemand o d f
  unfold Machine.takeDemand at taken
  split at taken
  case h_4 dwelling =>
    obtain rfl := Option.some.inj taken
    split
    · refine replaced.at_outlet (out_setSession_other ..) ?_
      rw [setSession_out]
      refine (replaced o).congr rfl rfl (.inr ?_)
      rw [Machine.replaceDemand, out_modOut]
      exact dwelling ▸ nofun
    · exact replaced
  all_goals cases taken
  all_goals exact replaced

theorem Withheld.takeComplete {im : Image} {s t : State} (h : Withheld im s) {o : Outlet} (taken : takeComplete im o s = some t) :
    Withheld im t := by
  unfold Machine.takeComplete at taken
  split at taken <;> cases taken
  · exact h.enterDwell o
  · exact h.enterDwell o
  · exact h.replaceDemand o 0 0

-- Effects before the end of their event.

/-- What an event does before it ends: it keeps setpoints to DISPENSING, and where it changes no session it serves the share. -/
structure Effect (im : Image) (s t : State) : Prop where
  configured : t.configured = s.configured
  withheld : Withheld im s → Withheld im t
  served : sessions t = sessions s → Served im s t

theorem Served.effect {im : Image} {s t : State} (h : Served im s t) : Effect im s t := ⟨h.configured, h.withheld, fun _ => h⟩

theorem Unmoved.effect {im : Image} {s t : State} (h : Unmoved s t) : Effect im s t := (Served.same h).effect

/-- A change of session is not yet served. -/
theorem Effect.of_change {im : Image} {s t : State} {o : Outlet} (configured : t.configured = s.configured)
    (withheld : Withheld im s → Withheld im t) (change : (t.out o).osc.state ≠ (s.out o).osc.state) : Effect im s t :=
  ⟨configured, withheld, fun same => absurd (by
    cases o with
    | a => exact congrArg Prod.fst same
    | b => exact congrArg Prod.snd same) change⟩

theorem Unmoved.sessions {s t : State} (h : Unmoved s t) : sessions t = sessions s := Prod.ext (h.inputs.state .a) (h.inputs.state .b)

theorem Effect.after {im : Image} {s t u : State} (k : Effect im t u) (h : Served im s t) (same : Machine.sessions t = Machine.sessions s) :
    Effect im s u :=
  ⟨k.configured.trans h.configured, fun w => k.withheld (h.withheld w), fun n => h.trans (k.served (n.trans same.symm))⟩

theorem Effect.after_unmoved {im : Image} {s t u : State} (k : Effect im t u) (h : Unmoved s t) : Effect im s u :=
  k.after (.same h) h.sessions

/-- The end of an event at an outlet serves the share (R46). -/
theorem Effect.outletEvent {im : Image} {s t : State} (h : Effect im s t) : Served im s (outletEvent im s t) := by
  have noted := unmoved_noteUpdate im (announced im s) t
  unfold Machine.outletEvent
  split
  · exact (h.served ‹_›).trans (.same noted)
  · exact .computed (noted.configured.trans h.configured) fun w => noted.withheld (h.withheld w)

/-- An event that triggers a computation serves the share (R46). -/
theorem served_triggered {im : Image} {s t : State} (configured : t.configured = s.configured) (h : Withheld im s → Withheld im t) :
    Served im s (triggered im s t) := by
  have noted := unmoved_noteUpdate im (announced im s) t
  exact .computed (noted.configured.trans configured) fun w => noted.withheld (h w)

theorem served_noted {im : Image} {f : State → State} {s : State} (h : Served im s (f s)) : Served im s (noted im f s) :=
  h.trans (.same (unmoved_noteUpdate im _ _))

theorem served_releaseRises (im : Image) (s : State) : Served im s (releaseRises im s) := by
  unfold releaseRises
  split
  · exact served_noted (.rises s)
  · exact .refl im s

-- Trips (R107, R108).

theorem osc_releaseRises (im : Image) (s : State) (o : Outlet) : ((releaseRises im s).out o).osc = (s.out o).osc := by
  unfold releaseRises
  split
  · rw [noted, out_noteUpdate, (risen_evaluateRises im s o).osc]
  · rfl

theorem out_tripOutlet (o : Outlet) (cause : TripCause) (s : State) :
    ((tripOutlet o cause s).out o).osc.state = .tripped ∧ ((tripOutlet o cause s).out o).grl.commanded = 0 ∧
      ((tripOutlet o cause s).out o).grl.pending = none ∧
      (tripOutlet o cause s).out (otherOutlet o) = s.out (otherOutlet o) := by
  unfold tripOutlet tripGrants
  dsimp only
  rw [out_modOut, out_modOut_other, raise_out, raise_out, out_setSession_other, out_modOut_other, setSession_out]
  exact ⟨rfl, sendWord_commanded _, sendWord_pending _, rfl⟩

/-- A trip of an outlet in a trippable state (R108). -/
def tripped (im : Image) (o : Outlet) (cause : TripCause) (s : State) : State :=
  settleRises (releaseRises im (noted im (tripOutlet o cause) s))

theorem trip_eq (im : Image) (o : Outlet) (cause : TripCause) (s : State) :
    trip im o cause s = if (fitted im o && trippable (s.out o).osc) = true then tripped im o cause s else s := rfl

theorem osc_tripped (im : Image) (o : Outlet) (cause : TripCause) (s : State) (x : Outlet) :
    ((tripped im o cause s).out x).osc = ((tripOutlet o cause s).out x).osc := by
  rw [tripped, out_settleRises, osc_releaseRises, noted, out_noteUpdate]

theorem Withheld.trip {im : Image} {s : State} (h : Withheld im s) (o : Outlet) (cause : TripCause) : Withheld im (trip im o cause s) := by
  rw [trip_eq]
  split
  · obtain ⟨-, commanded, pending, other⟩ := out_tripOutlet o cause s
    have trips : Withheld im (tripOutlet o cause s) := h.at_outlet other (withheldAt_of_none commanded pending)
    exact (unmoved_settleRises _).withheld ((served_releaseRises im _).withheld trips.noted)
  · exact h

/-- A trip is at its outlet alone, and there it is a change of state or nothing. -/
theorem trip_osc (im : Image) (o : Outlet) (cause : TripCause) (s : State) :
    ((trip im o cause s).out (otherOutlet o)).osc = (s.out (otherOutlet o)).osc ∧
      (trip im o cause s = s ∨ ((trip im o cause s).out o).osc.state ≠ (s.out o).osc.state) := by
  rw [trip_eq]
  split
  · rename_i trips
    obtain ⟨state, -, -, other⟩ := out_tripOutlet o cause s
    rw [osc_tripped, osc_tripped, other, state]
    refine ⟨rfl, .inr fun already => ?_⟩
    simp [trippable, ← already] at trips
  · exact ⟨rfl, .inl rfl⟩

theorem trip_configured (im : Image) (o : Outlet) (cause : TripCause) (s : State) : (trip im o cause s).configured = s.configured :=
  (moves_trip im o cause s).configured

theorem effect_trip (im : Image) (o : Outlet) (cause : TripCause) (s : State) : Effect im s (trip im o cause s) := by
  rcases (trip_osc im o cause s).2 with same | change
  · rw [same]; exact (Unmoved.refl s).effect
  · exact .of_change (trip_configured im o cause s) (fun w => w.trip o cause) change

/-- Two trips of one event (R109). -/
theorem effect_two_trips (im : Image) (o : Outlet) (cause : TripCause) (s : State) :
    Effect im s (trip im (otherOutlet o) cause (trip im o cause s)) := by
  rcases (trip_osc im o cause s).2 with same | change
  · rw [same]; exact effect_trip im _ cause s
  · refine .of_change (o := o) ((trip_configured ..).trans (trip_configured ..)) (fun w => (w.trip o cause).trip _ cause) ?_
    have kept := (trip_osc im (otherOutlet o) cause (trip im o cause s)).1
    rw [otherOutlet_other] at kept
    rw [kept]
    exact change

theorem effect_tripBoth (im : Image) (s : State) : Effect im s (tripBoth im s) := by
  have drawn : Unmoved s (if s.grl.riseWaiting then { s with draws := s.draws + 1 } else s) := by
    split
    · exact .of_outlets rfl rfl rfl rfl rfl
    · exact .refl s
  unfold tripBoth
  dsimp only
  split
  · exact (effect_two_trips im .b .eStop _).after_unmoved drawn
  · exact (effect_two_trips im .a .eStop _).after_unmoved drawn

theorem served_tripEvent (im : Image) (o : Outlet) (cause : TripCause) (s : State) : Served im s (tripEvent im o cause s) :=
  (effect_trip im o cause s).outletEvent

-- The start, the close and exhaustion (R101, R106, R113 to R117).

theorem effect_testStart (im : Image) (o : Outlet) (s : State) : Effect im s (testStart o s) := by
  unfold testStart
  split
  · rename_i starts
    simp only [startCondition, Bool.and_eq_true, beq_iff_eq] at starts
    have starting := starts.1.1
    refine .of_change (o := o) ((beside_setSession ..).configured.trans (beside_modOut ..).configured) (fun w => ?_) ?_
    · refine w.at_outlet (by rw [out_setSession_other, out_modOut_other]) ?_
      rw [setSession_out, out_modOut]
      exact (w o).congr rfl rfl (.inr (starting ▸ nofun))
    · rw [setSession_out, starting]
      nofun
  · exact (Unmoved.refl s).effect

theorem effect_completeClose (im : Image) {o : Outlet} {s : State} (closing : (s.out o).osc.state = .closing) :
    Effect im s (completeClose o s) := by
  refine .of_change (o := o) (beside_completeClose o s).configured (fun w => w.completeClose o) ?_
  rw [out_completeClose_state, closing]
  split <;> nofun

theorem effect_feedbackOpened (im : Image) (o : Outlet) (s : State) : Effect im s (feedbackOpened im o s) := by
  unfold feedbackOpened
  split
  · exact effect_completeClose im (inOpenWait_iff.mp ‹_›).1
  split
  · exact (unmoved_modOut s o _ rfl).effect
  split
  · exact (unmoved_modOut s o _ rfl).effect
  · exact (Unmoved.refl s).effect

theorem effect_reportOutput (im : Image) (o : Outlet) (s : State) : Effect im s (reportOutput im o s) := by
  unfold reportOutput
  split
  · rename_i down
    have opens := unmoved_waitsOpen im o s.now s
    have closing : ((s.modOut o (waitsOpen im s.now)).out o).osc.state = .closing := by
      rw [out_modOut]; exact (outputDown_iff.mp down).1
    have begun : Effect im s (beginOpenWait im o s) := by
      cases closed : (s.out o).feedback.level with
      | true => rw [beginOpenWait_closed closed]; exact opens.effect
      | false => rw [beginOpenWait_open closed]; exact (effect_completeClose im closing).after_unmoved opens
    have noted := unmoved_noteUpdate im (announced im s) (beginOpenWait im o s)
    exact ⟨noted.configured.trans begun.configured, fun w => noted.withheld (begun.withheld w),
      fun same => (begun.served (noted.sessions.symm.trans same)).trans (.same noted)⟩
  · exact (Unmoved.refl s).effect

/-- A confirmation lowers a grant and releases rises, which changes no session (R74). -/
theorem effect_confirmDecrease (im : Image) (o : Outlet) (s : State) :
    Effect im s (reportOutput im o (confirmDecrease im o (s.modOut o settledHigh))) := by
  have high := unmoved_modOut s o settledHigh rfl
  have lower := unmoved_modOut (s.modOut o settledHigh) o
    (fun u => { u with grl.confirmTimer := none, grl.unconfirmed := false, grl.inEffect := u.grl.commanded, mtf.reseed := true }) rfl
  have served : Served im s (confirmDecrease im o (s.modOut o settledHigh)) :=
    ((Served.same (high.trans lower)).trans (.same (unmoved_noteUpdate im _ _))).trans (served_releaseRises im _)
  refine (effect_reportOutput im o _).after served ?_
  rw [(confirmDecrease_butSlot im o s).sessions, (sessionsKept_released im o _).sessions, sessions_lowered]

theorem effect_checkCredit (im : Image) (o : Outlet) (p : Priced) (s : State) : Effect im s (checkCredit im o p s) := by
  unfold checkCredit
  dsimp only
  split
  · rename_i reached
    obtain ⟨commanded, pending, osc⟩ := out_withdraw im o (raise .exhausted (setSession o .exhausted
      (s.modOut o fun u => { u with osc.exhaustedFlag := true })))
    refine .of_change (o := o) (beside_exhaust im o s).configured
      (fun w => w.at_outlet ?_ (withheldAt_of_none commanded pending)) ?_
    · rw [exhaust, out_withdraw_other, raise_out, out_setSession_other, out_modOut_other]
    · rw [exhaust, osc, raise_out, setSession_out, reached.1]
      nofun
  · exact (Unmoved.refl s).effect

/-- An outlet becomes IDLE without grants (R87, R117); one that was IDLE had no claim. -/
theorem effect_idle (im : Image) (o : Outlet) (s : State) : Effect im s (clearGrants o (setSession o .idle s)) := by
  have configured : (clearGrants o (setSession o .idle s)).configured = s.configured :=
    (beside_clearGrants o _).configured.trans (beside_setSession o .idle s).configured
  have withheld : Withheld im s → Withheld im (clearGrants o (setSession o .idle s)) := fun w => by
    refine w.at_outlet (o := o) ?_ ?_
    · rw [(clearGrants_keeps o _).2.1, out_setSession_other]
    · rw [clearGrants_out]
      exact withheldAt_of_none rfl rfl
  by_cases already : (s.out o).osc.state = .idle
  · have stays : Unmoved s (setSession o .idle s) :=
      (unmoved_modOut s o (fun u => { u with osc.state := .idle }) (by rw [grantPart_eq]; simp [already])).trans (unmoved_raise _ _)
    have reordered : ∀ v : State, Unmoved v { v with grl.order := v.grl.order.filter fun x => x != o } :=
      fun _ => .of_outlets rfl rfl rfl rfl rfl
    have leaves := stays.trans (reordered _)
    rw [clearGrants_eq]
    refine Served.effect (((Served.same leaves).trans (.cleared (o := o) ?_)).trans (.same (unmoved_settleRises _)))
    unfold Claimless
    rw [leaves.inputs.state, already]
    exact ⟨nofun, nofun⟩
  · refine .of_change (o := o) configured withheld ?_
    rw [clearGrants_out, setSession_out]
    exact Ne.symm already

/-- The outlet at the head of the settle-wait order becomes IDLE, its record in the queue (R117). -/
theorem effect_serveSettleWait (im : Image) (s : State) : Effect im s (serveSettleWait s) := by
  unfold serveSettleWait
  split
  · exact (Unmoved.refl s).effect
  · refine (effect_idle im _ _).after_unmoved (.trans ?_ (unmoved_modOut _ _ _ rfl))
    split
    · rw [enterQueue_keeps]; exact .of_outlets rfl rfl rfl rfl rfl
    · exact .of_outlets rfl rfl rfl rfl rfl

end Sys2Proof.Machine
end

section
/-! SUPPORT. The rows of the host port, the grants, the outlets and the meter as the share and the grants see them: each serves the share
(`RowServes`). -/

namespace Sys2Proof.Machine

/-- The share is served, or the part no longer runs. -/
def EndsServed (im : Image) (s t : State) : Prop := Served im s t ∨ ∀ im', t.configured ≠ .running im'

/-- What a row does to a RUNNING part. -/
def RowServes (s t : State) : Prop := ∀ im, s.configured = .running im → EndsServed im s t

theorem Served.ends {im : Image} {s t : State} (h : Served im s t) : EndsServed im s t := .inl h

theorem EndsServed.after {im : Image} {s t u : State} (k : EndsServed im t u) (h : Served im s t) : EndsServed im s u := k.imp_left h.trans

theorem Unmoved.row {s t : State} (h : Unmoved s t) : RowServes s t := fun _ _ => .inl (.same h)

theorem RowServes.after_unmoved {s t u : State} (k : RowServes t u) (h : Unmoved s t) : RowServes s u := fun im r =>
  (k im (h.configured.trans r)).after (.same h)

theorem row_whenRunning {s : State} {f : Image → State} (h : ∀ im, EndsServed im s (f im)) : RowServes s (whenRunning s f) :=
  fun im r => by rw [whenRunning_running r]; exact h im

theorem row_whenFitted {s : State} {o : Outlet} {f : Image → State} (h : ∀ im, Served im s (f im)) : RowServes s (whenFitted s o f) :=
  row_whenRunning fun im => by
    split
    · exact (h im).ends
    · exact (Served.refl im s).ends

theorem served_ite {im : Image} {p : Prop} [Decidable p] {s t : State} (h : p → Served im s t) : Served im s (if p then t else s) := by
  split
  · exact h ‹_›
  · exact .refl im s

theorem served_ite_not {im : Image} {p : Prop} [Decidable p] {s t : State} (h : Served im s t) : Served im s (if p then s else t) := by
  split
  · exact .refl im s
  · exact h

/-- An event at an outlet that first changes what no invariant looks at. -/
theorem served_outletEvent {im : Image} {s t u : State} (h : Unmoved s t) (k : Effect im t u) : Served im s (outletEvent im s u) :=
  (k.after_unmoved h).outletEvent

/-- A recognised level, a meter or a timer at one outlet. -/
theorem served_modOut {im : Image} (s : State) (o : Outlet) (f : OutletState → OutletState)
    (h : grantPart (f (s.out o)) = grantPart (s.out o)) : Served im s (s.modOut o f) := .same (unmoved_modOut s o f h)

-- The gates of the host port (R182 to R185).

theorem unmoved_hpt (s : State) (x : Hpt) : Unmoved s { s with hpt := x } := .of_outlets rfl rfl rfl rfl rfl

theorem unmoved_tru (s : State) (x : Tru) : Unmoved s { s with tru := x } := .of_outlets rfl rfl rfl rfl rfl

theorem unmoved_answerPending (s : State) : Unmoved s (answerPending s) := unmoved_hpt s _

theorem unmoved_refuse (x : Status) (code : Nat) (s : State) : Unmoved s (refuse x code s) := unmoved_hpt s _

theorem unmoved_finishCaptured (c : Instr) (s : State) : Unmoved s (finishCaptured c s) := by
  rw [finishCaptured_keeps]; exact unmoved_hpt s _

theorem row_hostAny (c : Instr) {f : State → State} {s : State} (h : ∀ u, RowServes u (f u)) : RowServes s (hostAny c f s) := by
  have finished := unmoved_finishCaptured c s
  unfold hostAny
  split
  · exact (unmoved_answerPending s).row
  · exact (h _).after_unmoved finished
  · split
    · exact (unmoved_answerPending s).row
    · exact (h _).after_unmoved finished

theorem row_hostRunning (c : Instr) (code : Nat) {f : Image → State → State} {s : State} (h : ∀ im u, EndsServed im u (f im u)) :
    RowServes s (hostRunning c code f s) := by
  have finished := unmoved_finishCaptured c s
  unfold hostRunning
  split
  · exact (unmoved_answerPending s).row
  · exact (finished.trans (unmoved_refuse _ _ _)).row
  · rename_i im r
    split
    · exact (unmoved_answerPending s).row
    · intro im' r'
      obtain rfl : im = im' := by simpa [r] using r'
      exact (h im _).after (.same finished)

theorem served_refuse {im : Image} (x : Status) (code : Nat) (s : State) : Served im s (refuse x code s) := .same (unmoved_refuse x code s)

theorem served_respond {im : Image} (x : Status) (code : Nat) (p : List Byte) (s : State) : Served im s (respond x code p s) :=
  .same (unmoved_respond x code p s)

theorem Served.respond {im : Image} {s t : State} (h : Served im s t) (x : Status) (code : Nat) (p : List Byte) :
    Served im s (respond x code p t) := h.trans (served_respond x code p t)

-- The rows of the host port that touch neither an outlet nor the line.

theorem row_pending (s : State) : ∃ t, exec .pending s = .next t ∧ RowServes s t := by
  simp only [exec, execPending]
  split
  · exact ⟨_, rfl, (unmoved_hpt s _).row⟩
  · exact ⟨_, rfl, (Unmoved.refl s).row⟩

theorem row_chipSelectRise (bytes : List Byte) (s : State) : ∃ t, exec (.chipSelectRise bytes) s = .next t ∧ RowServes s t := by
  refine ⟨_, rfl, Unmoved.row ?_⟩
  split
  · exact .of_outlets rfl rfl rfl rfl rfl
  split
  · exact unmoved_hpt s _
  · exact unmoved_hpt s _

theorem row_unknownCommand (bytes : List Byte) (s : State) : ∃ t, exec (.unknownCommand bytes) s = .next t ∧ RowServes s t := by
  simp only [exec, execUnknownCommand]
  split
  · exact ⟨_, rfl, (Unmoved.refl s).row⟩
  · refine ⟨_, rfl, row_hostAny _ fun u => ?_⟩
    split
    · exact (unmoved_refuse _ _ u).row
    · exact (Unmoved.refl u).row

theorem row_nop (s : State) : ∃ t, exec .nop s = .next t ∧ RowServes s t :=
  ⟨_, rfl, row_hostAny _ fun u => (unmoved_respond _ _ _ u).row⟩

theorem row_status (s : State) : ∃ t, exec .status s = .next t ∧ RowServes s t :=
  ⟨_, rfl, row_hostAny _ fun u => (unmoved_respond _ _ _ u).row⟩

theorem row_events (clear : BitVec 16) (s : State) : ∃ t, exec (.events clear) s = .next t ∧ RowServes s t := by
  refine ⟨_, rfl, row_hostAny _ fun u => ?_⟩
  split
  · exact (unmoved_refuse _ _ u).row
  · exact ((unmoved_hpt u _).trans (unmoved_respond _ _ _ _)).row

theorem row_eventEnable (enable : BitVec 16) (s : State) : ∃ t, exec (.eventEnable enable) s = .next t ∧ RowServes s t := by
  refine ⟨_, rfl, row_hostRunning _ _ fun im u => Served.ends ?_⟩
  split
  · exact served_refuse _ _ u
  · exact (Served.same (unmoved_hpt u _)).respond _ _ _

theorem row_lineStatus (s : State) : ∃ t, exec .lineStatus s = .next t ∧ RowServes s t :=
  ⟨_, rfl, row_hostRunning _ _ fun _ u => (served_respond _ _ _ u).ends⟩

theorem row_setClock (minute : BitVec 16) (seconds : Byte) (s : State) :
    ∃ t, exec (.setClock minute seconds) s = .next t ∧ RowServes s t := by
  refine ⟨_, rfl, row_hostRunning _ _ fun im u => Served.ends ?_⟩
  split
  · exact served_refuse _ _ u
  · exact (Served.same (unmoved_tru u _)).respond _ _ _

theorem row_outletStatus (outlet : Byte) (s : State) : ∃ t, exec (.outletStatus outlet) s = .next t ∧ RowServes s t := by
  refine ⟨_, rfl, row_hostRunning _ _ fun im u => Served.ends ?_⟩
  split
  · exact served_refuse _ _ u
  · exact served_respond _ _ _ u

theorem row_rosterRead (id : Byte) (s : State) : ∃ t, exec (.rosterRead id) s = .next t ∧ RowServes s t := by
  refine ⟨_, rfl, row_hostRunning _ _ fun im u => Served.ends ?_⟩
  split
  · exact served_refuse _ _ u
  · exact served_respond _ _ _ u

theorem row_tariffLoad (bank : Byte) (image : Vector Byte 57) (s : State) :
    ∃ t, exec (.tariffLoad bank image) s = .next t ∧ RowServes s t := by
  refine ⟨_, rfl, row_hostRunning _ _ fun im u => Served.ends ?_⟩
  split
  · exact served_refuse _ _ u
  split
  · exact served_refuse _ _ u
  split
  · exact (Served.same (unmoved_tru u _)).respond _ _ _
  · exact served_refuse _ _ u

theorem row_tariffSelect (bank : Byte) (s : State) : ∃ t, exec (.tariffSelect bank) s = .next t ∧ RowServes s t := by
  refine ⟨_, rfl, row_hostRunning _ _ fun im u => Served.ends ?_⟩
  split
  · exact served_refuse _ _ u
  split
  · exact (Served.same (unmoved_tru u _)).respond _ _ _
  · exact served_refuse _ _ u

theorem row_tariffRead (bank : Byte) (s : State) : ∃ t, exec (.tariffRead bank) s = .next t ∧ RowServes s t := by
  refine ⟨_, rfl, row_hostRunning _ _ fun im u => Served.ends ?_⟩
  split
  · exact served_refuse _ _ u
  · exact served_respond _ _ _ u

theorem row_recordPeek (s : State) : ∃ t, exec .recordPeek s = .next t ∧ RowServes s t := by
  refine ⟨_, rfl, row_hostRunning _ _ fun im u => Served.ends ?_⟩
  split
  · exact served_refuse _ _ u
  · exact served_respond _ _ _ u

-- The commands of a session (R99, R102, R112, R177).

/-- The host's OPEN SESSION is refused but at an outlet that is IDLE (R99). -/
theorem idle_of_openRefusal {im : Image} {s : State} {o : Outlet} (h : openRefusal im s o = none) : (s.out o).osc.state = .idle := by
  unfold openRefusal at h
  split at h
  · nomatch h
  split at h
  · nomatch h
  · exact not_not.mp ‹_›

theorem row_openSession (outlet : Byte) (reference hold : BitVec 32) (tier : Byte) (demand floor : BitVec 16) (s : State) :
    ∃ t, exec (.openSession outlet reference hold tier demand floor) s = .next t ∧ RowServes s t := by
  refine ⟨_, rfl, row_hostRunning _ _ fun im u => Served.ends ?_⟩
  split
  · exact served_refuse _ _ u
  split
  · exact served_refuse _ _ u
  · rename_i accepted
    have idle := idle_of_openRefusal (Option.or_eq_none_iff.mp accepted).2
    exact (served_triggered (beside_acceptOpen im _ _ u).configured fun w => w.acceptOpen idle _).respond _ _ _

theorem served_demandTaken (im : Image) (s : State) (d f : Nat) {after : Option State} (beside : ∀ t, after = some t → Beside s t)
    (h : ∀ t, after = some t → Withheld im s → Withheld im t) : Served im s (demandTaken im s d f after) := by
  unfold demandTaken
  split
  · exact served_refuse _ _ s
  · exact (served_triggered (beside _ rfl).configured (h _ rfl)).respond _ _ _

theorem row_setDemand (outlet : Byte) (demand floor : BitVec 16) (complete : Byte) (s : State) :
    ∃ t, exec (.setDemand outlet demand floor complete) s = .next t ∧ RowServes s t := by
  refine ⟨_, rfl, row_hostRunning _ _ fun im u => Served.ends ?_⟩
  split
  · exact served_refuse _ _ u
  split
  · exact served_refuse _ _ u
  split
  · exact served_demandTaken im u 0 0 (fun t h => beside_takeComplete h) fun t h w => w.takeComplete h
  · exact served_demandTaken im u _ _ (fun t h => beside_takeDemand h) fun t h w => w.takeDemand h

theorem row_closeSession (outlet : Byte) (s : State) : ∃ t, exec (.closeSession outlet) s = .next t ∧ RowServes s t := by
  refine ⟨_, rfl, row_hostRunning _ _ fun im u => Served.ends ?_⟩
  split
  · exact served_refuse _ _ u
  split
  · exact served_refuse _ _ u
  split
  · exact (served_triggered (moves_acceptClose im _ u).configured fun w => w.acceptClose _).respond _ _ _
  · exact served_refuse _ _ u

theorem row_recordRelease (s : State) : ∃ t, exec .recordRelease s = .next t ∧ RowServes s t := by
  refine ⟨_, rfl, row_hostRunning _ _ fun im u => Served.ends ?_⟩
  split
  · exact served_refuse _ _ u
  · rename_i rest _
    have released : Unmoved u { u with stu.queue := rest } := .of_outlets rfl rfl rfl rfl rfl
    exact (served_outletEvent released (effect_serveSettleWait im _)).respond _ _ _

-- The rows of the grants (spec/04).

theorem row_riseHoldExpiry (s : State) : ∃ t, exec .riseHoldExpiry s = .next t ∧ RowServes s t := by
  have stopped : Unmoved s { s with grl.riseHold := none } := .of_outlets rfl rfl rfl rfl rfl
  refine ⟨_, rfl, row_whenRunning fun im => (served_ite fun _ => ?_).ends⟩
  dsimp only
  split
  · exact (Served.same stopped).trans (served_noted (.rises _))
  · exact .same (stopped.trans (.of_outlets rfl rfl rfl rfl rfl))

theorem grantPart_endWord (u : OutletState) : grantPart (endWord u) = grantPart u := by
  unfold endWord; dsimp only; split <;> rfl

theorem row_setpointWordEnd (o : Outlet) (s : State) : ∃ t, exec (.setpointWordEnd o) s = .next t ∧ RowServes s t :=
  ⟨_, rfl, row_whenFitted fun _ => served_ite fun _ => served_modOut s o _ (grantPart_endWord _)⟩

theorem row_confirmation (o : Outlet) (s : State) : ∃ t, exec (.confirmation o) s = .next t ∧ RowServes s t := by
  refine ⟨_, rfl, row_whenFitted fun im => served_ite_not ?_⟩
  dsimp only
  split
  · exact (effect_confirmDecrease im o s).outletEvent
  · exact served_modOut s o _ rfl

theorem row_settledRecognisedLow (o : Outlet) (s : State) : ∃ t, exec (.settledRecognisedLow o) s = .next t ∧ RowServes s t :=
  ⟨_, rfl, row_whenFitted fun _ => served_ite fun _ => served_modOut s o _ rfl⟩

theorem row_confirmTimeout (o : Outlet) (s : State) : ∃ t, exec (.confirmTimeout o) s = .next t ∧ RowServes s t :=
  ⟨_, rfl, row_whenFitted fun im => served_ite fun _ => (served_modOut s o _ rfl).trans (served_tripEvent im o _ _)⟩

theorem row_parkHoldExpiry (o : Outlet) (s : State) : ∃ t, exec (.parkHoldExpiry o) s = .next t ∧ RowServes s t := by
  refine ⟨_, rfl, row_whenFitted fun im => ?_⟩
  split
  · exact served_modOut s o _ rfl
  · exact .refl im s
  · exact .refl im s

-- The rows of the outlets' inputs and timers (spec/05).

theorem unmoved_eStop (s : State) (x : Filter) : Unmoved s { s with eStop := x } := .of_outlets rfl rfl rfl rfl rfl

theorem row_eStopAsserted (s : State) : ∃ t, exec .eStopAsserted s = .next t ∧ RowServes s t :=
  ⟨_, rfl, row_whenRunning fun im => (served_ite_not (served_outletEvent (unmoved_eStop s _) (effect_tripBoth im _))).ends⟩

theorem row_eStopReleased (s : State) : ∃ t, exec .eStopReleased s = .next t ∧ RowServes s t :=
  ⟨_, rfl, row_whenRunning fun _ => (served_ite fun _ => .same (unmoved_eStop s _)).ends⟩

theorem row_holdChange (o : Outlet) (released : Bool) (s : State) : ∃ t, exec (.holdChange o released) s = .next t ∧ RowServes s t :=
  ⟨_, rfl, row_whenFitted fun im => served_ite_not (served_outletEvent (unmoved_modOut s o _ rfl) (effect_testStart im o _))⟩

theorem row_faultAsserted (o : Outlet) (s : State) : ∃ t, exec (.faultAsserted o) s = .next t ∧ RowServes s t :=
  ⟨_, rfl, row_whenFitted fun im => served_ite_not (served_outletEvent (unmoved_modOut s o _ rfl) (effect_trip im o _ _))⟩

theorem row_faultReleased (o : Outlet) (s : State) : ∃ t, exec (.faultReleased o) s = .next t ∧ RowServes s t :=
  ⟨_, rfl, row_whenFitted fun _ => served_ite fun _ => served_modOut s o _ rfl⟩

theorem row_feedbackClosed (o : Outlet) (s : State) : ∃ t, exec (.feedbackClosed o) s = .next t ∧ RowServes s t :=
  ⟨_, rfl, row_whenFitted fun im => served_ite_not (served_outletEvent (unmoved_modOut s o _ rfl) (effect_testStart im o _))⟩

theorem row_feedbackOpen (o : Outlet) (s : State) : ∃ t, exec (.feedbackOpen o) s = .next t ∧ RowServes s t :=
  ⟨_, rfl, row_whenFitted fun im => served_ite fun _ =>
    served_outletEvent (unmoved_modOut s o _ rfl) (effect_feedbackOpened im o _)⟩

theorem row_mismatchTimerExpiry (o : Outlet) (s : State) : ∃ t, exec (.mismatchTimerExpiry o) s = .next t ∧ RowServes s t :=
  ⟨_, rfl, row_whenFitted fun im => served_ite fun _ => (served_modOut s o _ rfl).trans (served_tripEvent im o _ _)⟩

theorem row_startTimerExpiry (o : Outlet) (s : State) : ∃ t, exec (.startTimerExpiry o) s = .next t ∧ RowServes s t :=
  ⟨_, rfl, row_whenFitted fun im => served_ite fun _ => (served_modOut s o _ rfl).trans (served_tripEvent im o _ _)⟩

theorem row_closeTimerExpiry (o : Outlet) (s : State) : ∃ t, exec (.closeTimerExpiry o) s = .next t ∧ RowServes s t := by
  refine ⟨_, rfl, row_whenFitted fun im => served_ite fun due => ?_⟩
  refine served_outletEvent (unmoved_modOut s o (fun u => { u with osc.forcedOpen := true }) rfl) (effect_completeClose im ?_)
  rw [out_modOut]
  exact (inOpenWait_iff.mp due.2).1

-- The rows of the meter, the dwell minute and the clock (spec/06, spec/07, spec/08).

theorem unmoved_accruePulse (im : Image) (o : Outlet) (p : Priced) (s : State) : Unmoved s (accruePulse im o p s) := by
  have looked : Unmoved s (noteLookup o p s) := by
    unfold noteLookup
    dsimp only
    split
    · exact (unmoved_modOut s o _ rfl).trans (unmoved_raise _ _)
    · exact unmoved_modOut s o _ rfl
  unfold accruePulse
  exact looked.trans (unmoved_modOut _ o _ rfl)

theorem served_testOverDraw (im : Image) (o : Outlet) (s : State) : Served im s (testOverDraw im o s) := by
  unfold testOverDraw
  dsimp only
  split
  · exact (served_modOut s o _ rfl).trans (served_tripEvent im o _ _)
  · exact served_modOut s o _ rfl

theorem served_captureInterval (im : Image) (o : Outlet) (s : State) : Served im s (captureInterval im o s) := by
  unfold captureInterval
  split
  · exact .refl im s
  · exact served_modOut s o _ rfl
  · exact served_modOut s o _ rfl
  · exact (served_modOut s o _ rfl).trans (served_testOverDraw im o _)

theorem served_billPulse (im : Image) (o : Outlet) (s : State) : Served im s (billPulse im o s) :=
  ((Served.same (unmoved_accruePulse im o _ s)).trans (effect_checkCredit im o _ _).outletEvent).trans (served_captureInterval im o _)

theorem row_meterPulse (o : Outlet) (s : State) : ∃ t, exec (.meterPulse o) s = .next t ∧ RowServes s t := by
  refine ⟨_, rfl, row_whenFitted fun im => served_ite_not ?_⟩
  have active : Unmoved s (s.modOut o fun u => { u with mtf.pulse := recognise true u.mtf.pulse }) := unmoved_modOut s o _ rfl
  dsimp only
  split
  · exact (Served.same active).trans (served_billPulse im o _)
  · exact .same (active.trans ((unmoved_modOut _ o _ rfl).trans (unmoved_raise _ _)))

theorem row_pulseRecognisedInactive (o : Outlet) (s : State) :
    ∃ t, exec (.pulseRecognisedInactive o) s = .next t ∧ RowServes s t :=
  ⟨_, rfl, row_whenFitted fun _ => served_ite fun _ => served_modOut s o _ rfl⟩

theorem row_noFlow (o : Outlet) (s : State) : ∃ t, exec (.noFlow o) s = .next t ∧ RowServes s t :=
  ⟨_, rfl, row_whenFitted fun _ => served_ite fun _ => served_modOut s o _ rfl⟩

theorem row_dwellMinute (o : Outlet) (s : State) : ∃ t, exec (.dwellMinute o) s = .next t ∧ RowServes s t := by
  have charged : ∀ r : Accounts × Nat, Unmoved s { s.modOut o (fun u => { u with acc := r.1 }) with draws := r.2 } :=
    fun r => (unmoved_modOut s o (fun u => { u with acc := r.1 }) rfl).trans (.of_outlets rfl rfl rfl rfl rfl)
  exact ⟨_, rfl, row_whenFitted fun _ => served_ite fun _ => .same (charged _)⟩

theorem row_tariffClockAdvance (s : State) : ∃ t, exec .tariffClockAdvance s = .next t ∧ RowServes s t :=
  ⟨_, rfl, Unmoved.row (.of_outlets rfl rfl rfl rfl rfl)⟩

/-- Every row of the host port, the grants, the outlets and the meter serves the share. -/
theorem row_elsewhere (c : Instr) (s : State) (h : changesLine c = false) : ∃ t, exec c s = .next t ∧ RowServes s t := by
  cases c with
  | powerOn | resetLineAsserted | resetLineReleased | configurationReadEnd | passTimeout | configure | restart => cases h
  | leaveTimerExpiry | sharePeriodTick | quarterPeriodMark | attemptStart | arbitrationLoss | bitError => cases h
  | restTimerExpiry | ownFrameCompletion | stuffViolation | announceReceived | leaveReceived | lineIdle | frameStartBit => cases h
  | pending => exact row_pending s
  | unknownCommand bytes => exact row_unknownCommand bytes s
  | nop => exact row_nop s
  | status => exact row_status s
  | lineStatus => exact row_lineStatus s
  | setClock => exact row_setClock _ _ s
  | openSession => exact row_openSession _ _ _ _ _ _ s
  | setDemand => exact row_setDemand _ _ _ _ s
  | closeSession => exact row_closeSession _ s
  | outletStatus => exact row_outletStatus _ s
  | rosterRead => exact row_rosterRead _ s
  | tariffLoad => exact row_tariffLoad _ _ s
  | tariffSelect => exact row_tariffSelect _ s
  | tariffRead => exact row_tariffRead _ s
  | recordPeek => exact row_recordPeek s
  | recordRelease => exact row_recordRelease s
  | events => exact row_events _ s
  | eventEnable => exact row_eventEnable _ s
  | riseHoldExpiry => exact row_riseHoldExpiry s
  | setpointWordEnd o => exact row_setpointWordEnd o s
  | confirmation o => exact row_confirmation o s
  | confirmTimeout o => exact row_confirmTimeout o s
  | parkHoldExpiry o => exact row_parkHoldExpiry o s
  | eStopAsserted => exact row_eStopAsserted s
  | eStopReleased => exact row_eStopReleased s
  | holdChange o released => exact row_holdChange o released s
  | faultAsserted o => exact row_faultAsserted o s
  | faultReleased o => exact row_faultReleased o s
  | feedbackClosed o => exact row_feedbackClosed o s
  | feedbackOpen o => exact row_feedbackOpen o s
  | mismatchTimerExpiry o => exact row_mismatchTimerExpiry o s
  | startTimerExpiry o => exact row_startTimerExpiry o s
  | closeTimerExpiry o => exact row_closeTimerExpiry o s
  | meterPulse o => exact row_meterPulse o s
  | noFlow o => exact row_noFlow o s
  | dwellMinute o => exact row_dwellMinute o s
  | settledRecognisedLow o => exact row_settledRecognisedLow o s
  | pulseRecognisedInactive o => exact row_pulseRecognisedInactive o s
  | tariffClockAdvance => exact row_tariffClockAdvance s
  | chipSelectRise bytes => exact row_chipSelectRise bytes s

end Sys2Proof.Machine
end

section
/-! PROOF. The share and the grants through every step (R46, R61, R72, R88): the rows of the line and of the start-up, a step, and the two
invariants. -/

namespace Sys2Proof.Machine

-- What an event at the PRS keeps.

/-- The outlets, the configuration and the share result are as they were. -/
structure OutletsKept (s t : State) : Prop where
  configured : t.configured = s.configured
  shc : t.shc = s.shc
  a : t.outA = s.outA
  b : t.outB = s.outB

theorem OutletsKept.trans {s t u : State} (h : OutletsKept s t) (k : OutletsKept t u) : OutletsKept s u :=
  ⟨k.configured.trans h.configured, k.shc.trans h.shc, k.a.trans h.a, k.b.trans h.b⟩

theorem OutletsKept.out {s t : State} (h : OutletsKept s t) (o : Outlet) : t.out o = s.out o := by
  cases o
  · exact h.a
  · exact h.b

theorem OutletsKept.withheld {im : Image} {s t : State} (h : OutletsKept s t) (k : Withheld im s) : Withheld im t := fun o => by
  rw [h.out]; exact k o

theorem OutletsKept.unmoved {s t : State} (h : OutletsKept s t) (prs : shareChanged s.prs t.prs = false) : Unmoved s t :=
  ⟨h.configured, h.shc, prs, fun o => by rw [h.out]⟩

theorem RosterOnly.outletsKept {s t : State} (h : RosterOnly s t) : OutletsKept s t := by
  rw [h.1]; exact ⟨rfl, rfl, rfl, rfl⟩

theorem outletsKept_evaluated (im : Image) (before : Announced) (s : State) : OutletsKept s (noteUpdate im before (evaluateMode im s)) :=
  (rosterOnly_evaluateMode im s).outletsKept.trans ⟨by simp, by simp, by simp, by simp⟩

/-- An event at the PRS gives the Share Calculator a signal where it changes what the share is worked from (R41, R46). -/
theorem served_finishRoster {im : Image} {before s : State} (h : OutletsKept before s) : Served im before (finishRoster im before s) := by
  have kept := h.trans (outletsKept_evaluated im (announced im before) s)
  unfold finishRoster
  dsimp only
  split
  · exact .computed kept.configured kept.withheld
  · exact .same (kept.unmoved (Bool.eq_false_iff.mpr ‹_›))

/-- The tick gives the signal whether or not anything changed (R42). -/
theorem served_tickRoster (im : Image) (s : State) : Served im s (tickRoster im s) := by
  have kept := (rosterOnly_rosterTicked im s).outletsKept.trans (outletsKept_evaluated im (announced im s) _)
  rw [tickRoster_eq]
  exact .computed kept.configured kept.withheld

theorem unmoved_slc (s : State) (x : Slc) : Unmoved s { s with slc := x } := .of_outlets rfl rfl rfl rfl rfl

theorem served_slc {im : Image} (s : State) (x : Slc) : Served im s { s with slc := x } := .same (unmoved_slc s x)

theorem EndsServed.refl (im : Image) (s : State) : EndsServed im s s := (Served.refl im s).ends

theorem EndsServed.then_unmoved {im : Image} {s t u : State} (h : EndsServed im s t) (k : Unmoved t u) : EndsServed im s u := by
  rcases h with served | stops
  · exact .inl (served.trans (.same k))
  · exact .inr (k.configured ▸ stops)

theorem ends_reinitialise (im : Image) (s t : State) : EndsServed im s (reinitialise t) := .inr nofun

theorem EndsServed.leaveCheck {im : Image} {s t : State} (h : EndsServed im s t) : EndsServed im s (leaveCheck t) := by
  rcases leaveCheck_cases t with ⟨ends, -⟩ | same
  · rw [ends]; exact ends_reinitialise im s t
  · rw [same]; exact h

-- The rows of the share line and of the tick (R3 to R20, R42).

theorem row_restart (s : State) : ∃ t, exec .restart s = .next t ∧ RowServes s t := by
  refine ⟨_, rfl, row_hostRunning _ _ fun im u => ?_⟩
  split
  · unfold beginLeave
    split
    · exact ((served_respond _ _ _ u).trans (served_slc _ _)).ends
    · exact ends_reinitialise im u _
  · exact (served_refuse _ _ u).ends

theorem row_leaveTimerExpiry (s : State) : ∃ t, exec .leaveTimerExpiry s = .next t ∧ RowServes s t := by
  refine ⟨_, rfl, row_whenRunning fun im => ?_⟩
  split
  · exact (served_slc s _).ends.leaveCheck
  · exact .refl im s

theorem row_sharePeriodTick (s : State) : ∃ t, exec .sharePeriodTick s = .next t ∧ RowServes s t := by
  have caused : ∀ u, Unmoved u (tickCause u) := fun u => by
    unfold tickCause
    split
    · split
      · exact unmoved_slc u _
      · exact unmoved_slc u _
      · exact unmoved_slc u _
      · exact .refl u
    · exact .refl u
  exact ⟨_, rfl, row_whenRunning fun im => ((Served.same ((unmoved_slc s _).trans (caused _))).trans (served_tickRoster im _)).ends⟩

theorem row_quarterPeriodMark (s : State) : ∃ t, exec .quarterPeriodMark s = .next t ∧ RowServes s t := by
  refine ⟨_, rfl, row_whenRunning fun im => ?_⟩
  split
  · exact (served_slc s _).ends
  all_goals exact .refl im s

theorem row_attemptStart (s : State) : ∃ t, exec .attemptStart s = .next t ∧ RowServes s t := by
  refine ⟨_, rfl, row_whenRunning fun im => ?_⟩
  split
  · exact (served_ite fun _ => served_slc s _).ends
  all_goals exact .refl im s

theorem row_arbitrationLoss (s : State) : ∃ t, exec .arbitrationLoss s = .next t ∧ RowServes s t := by
  refine ⟨_, rfl, row_whenRunning fun im => ?_⟩
  split
  · exact (served_slc s _).ends.leaveCheck
  all_goals exact .refl im s

theorem row_bitError (s : State) : ∃ t, exec .bitError s = .next t ∧ RowServes s t := by
  refine ⟨_, rfl, row_whenRunning fun im => ?_⟩
  split
  · refine EndsServed.then_unmoved (EndsServed.leaveCheck ?_) (unmoved_slc _ _)
    split
    · exact (served_finishRoster (before := s) (s := startRest (abortFrame _ s)) ⟨rfl, rfl, rfl, rfl⟩).ends
    · exact (served_slc s _).ends
  all_goals exact .refl im s

theorem row_restTimerExpiry (s : State) : ∃ t, exec .restTimerExpiry s = .next t ∧ RowServes s t :=
  ⟨_, rfl, row_whenRunning fun _ => (served_ite fun _ =>
    served_finishRoster (before := s) (s := { s with slc.restTimer := none, slc.tx := .on, slc.bitErrorRun := 0 }) ⟨rfl, rfl, rfl, rfl⟩).ends⟩

theorem row_ownFrameCompletion (acknowledged : Bool) (s : State) :
    ∃ t, exec (.ownFrameCompletion acknowledged) s = .next t ∧ RowServes s t := by
  refine ⟨_, rfl, row_whenRunning fun im => ?_⟩
  split
  · have reported : Served im (completeFrame s) (reportCompletion im acknowledged (completeFrame s)) := by
      unfold reportCompletion
      split
      · exact served_finishRoster (s := { completeFrame s with prs.ackSilence := 0 }) ⟨rfl, rfl, rfl, rfl⟩
      · exact served_slc _ _
    exact (((served_slc s _).trans reported).trans (served_slc _ _)).ends
  · exact ends_reinitialise im s _
  all_goals exact .refl im s

theorem row_stuffViolation (s : State) : ∃ t, exec .stuffViolation s = .next t ∧ RowServes s t :=
  ⟨_, rfl, row_whenRunning fun _ => (served_ite fun _ => served_slc s _).ends⟩

theorem row_lineIdle (s : State) : ∃ t, exec .lineIdle s = .next t ∧ RowServes s t := by
  refine ⟨_, rfl, Unmoved.row ?_⟩
  split
  · exact .refl s
  · exact unmoved_slc s _

theorem row_frameStartBit (s : State) : ∃ t, exec .frameStartBit s = .next t ∧ RowServes s t := by
  refine ⟨_, rfl, ?_⟩
  split
  · exact RowServes.after_unmoved (row_whenRunning fun _ => (served_slc _ _).ends) (unmoved_slc s _)
  · exact (Unmoved.refl s).row

theorem ends_conflictFrame (im : Image) (s : State) : EndsServed im s (conflictFrame im s) := by
  have barred : Unmoved s (barTransmitter s) := (unmoved_slc s _).trans (unmoved_raise _ _)
  unfold conflictFrame
  refine EndsServed.leaveCheck ?_
  split
  · exact .inl (.same barred)
  · exact (served_finishRoster (before := s) (s := barTransmitter s) ⟨rfl, rfl, rfl, rfl⟩).ends

theorem ends_judgeFrame {im : Image} {bytes : List Byte} {mark malformed : Bool} {deliver : State → State} {s : State}
    (h : ∀ u, Served im u (deliver u)) : EndsServed im s (judgeFrame im bytes mark malformed deliver s) := by
  rcases judgeFrame_cases im bytes mark malformed deliver s with e | ⟨-, e | e | ⟨-, -, e⟩⟩ <;> rw [e]
  · exact .refl im s
  · exact (served_slc s _).ends
  · exact ends_conflictFrame im s
  · exact ((served_slc s _).trans (h _)).ends

theorem row_announceReceived (frame : Vector Byte 21) (mark : Bool) (s : State) :
    ∃ t, exec (.announceReceived frame mark) s = .next t ∧ RowServes s t := by
  refine ⟨_, rfl, row_whenRunning fun im => ?_⟩
  dsimp only
  split
  · exact ends_judgeFrame fun u => .refl im u
  · exact ends_judgeFrame fun u => served_finishRoster (rosterOnly_announceHeard im _ _ _ u).outletsKept

theorem row_leaveReceived (frame : Vector Byte 4) (mark : Bool) (s : State) :
    ∃ t, exec (.leaveReceived frame mark) s = .next t ∧ RowServes s t :=
  ⟨_, rfl, row_whenRunning fun im => ends_judgeFrame fun u => served_finishRoster (rosterOnly_leaveHeard im _ u).outletsKept⟩

/-- A RUNNING part is reset by a row of the start-up, or answers (R191, R203, R204). -/
theorem row_startsUp {c : Instr} (k : startsUp c = true) {s t : State} (e : exec c s = .next t) : RowServes s t := by
  intro im r
  cases c with
  | powerOn => cases e; exact .inr (by split <;> nofun)
  | resetLineAsserted => cases e; exact .inr nofun
  | resetLineReleased =>
    simp only [exec, execResetLineReleased, r] at e
    cases e
    exact .inl (.same (.of_outlets r.symm rfl rfl rfl rfl))
  | configurationReadEnd =>
    simp only [exec, execConfigurationReadEnd, r] at e
    cases e
    exact .refl im s
  | passTimeout =>
    simp only [exec, execPassTimeout, r] at e
    cases e
    exact .refl im s
  | configure image =>
    have finished := unmoved_finishCaptured (.configure image) s
    simp only [exec, execConfigure, hostAny, r, finished.configured] at e
    split at e <;> cases e
    · exact .inl (.same (unmoved_answerPending s))
    · exact .inl (.same (finished.trans (unmoved_refuse _ _ _)))
  | _ => cases k

/-- Every row serves the share of a RUNNING part, or the part no longer runs. -/
theorem exec_serves (c : Instr) {s t : State} (e : exec c s = .next t) : RowServes s t := by
  have of_row : (∃ t, exec c s = .next t ∧ RowServes s t) → RowServes s t := fun ⟨u, eu, serves⟩ => by
    rw [eu] at e; cases e; exact serves
  by_cases k : changesLine c = false
  · exact of_row (row_elsewhere c s k)
  by_cases start : startsUp c = true
  · exact row_startsUp start e
  cases c with
  | restart => exact of_row (row_restart s)
  | leaveTimerExpiry => exact of_row (row_leaveTimerExpiry s)
  | sharePeriodTick => exact of_row (row_sharePeriodTick s)
  | quarterPeriodMark => exact of_row (row_quarterPeriodMark s)
  | attemptStart => exact of_row (row_attemptStart s)
  | arbitrationLoss => exact of_row (row_arbitrationLoss s)
  | bitError => exact of_row (row_bitError s)
  | restTimerExpiry => exact of_row (row_restTimerExpiry s)
  | ownFrameCompletion acknowledged => exact of_row (row_ownFrameCompletion acknowledged s)
  | stuffViolation => exact of_row (row_stuffViolation s)
  | announceReceived frame mark => exact of_row (row_announceReceived frame mark s)
  | leaveReceived frame mark => exact of_row (row_leaveReceived frame mark s)
  | lineIdle => exact of_row (row_lineIdle s)
  | frameStartBit => exact of_row (row_frameStartBit s)
  | powerOn | resetLineAsserted | resetLineReleased | configurationReadEnd | passTimeout | configure => exact absurd rfl start
  | _ => exact absurd rfl k

-- The entry to RUNNING (R48, R208).

/-- The part has entered RUNNING: its share is computed, with the grants as they stood. -/
def ShareStarted (im : Image) (s t : State) : Prop := ∃ u, (∀ o, (u.out o).grl = (s.out o).grl) ∧ Unmoved (computation im u) t

theorem unmoved_firstWord (im : Image) (o : Outlet) (s : State) : Unmoved s (firstWord im o s) := by
  unfold firstWord
  split
  · exact unmoved_modOut s o _ rfl
  · exact .refl s

theorem shareStarted_enterRunning (im : Image) (s : State) : ShareStarted im s (enterRunning im s) := by
  have words : ∀ u, Unmoved u (firstWord im .b (firstWord im .a u)) := fun u => (unmoved_firstWord im .a u).trans (unmoved_firstWord im .b _)
  unfold enterRunning
  dsimp only
  split
  all_goals exact ⟨_, fun o => by cases o <;> rfl, words _⟩

theorem ShareStarted.then_unmoved {im : Image} {s t u : State} (h : ShareStarted im s t) (k : Unmoved t u) : ShareStarted im s u := by
  obtain ⟨x, grl, served⟩ := h
  exact ⟨x, grl, served.trans k⟩

theorem enterRunning_configured (im : Image) (s : State) : (enterRunning im s).configured = .running im := by
  obtain ⟨u, running, -, -, moves⟩ := enterRunning_moves im s
  exact moves.configured.trans running

/-- A part enters RUNNING by the end of a read or by CONFIGURE (R208, R209). -/
theorem shareStarted_startsUp {c : Instr} (k : startsUp c = true) {s t : State} {im : Image} (n : ∀ im, s.configured ≠ .running im)
    (e : exec c s = .next t) (r : t.configured = .running im) : ShareStarted im s t := by
  cases c with
  | powerOn => cases e; split at r <;> nomatch r
  | resetLineAsserted => cases e; nomatch r
  | resetLineReleased =>
    simp only [exec, execResetLineReleased] at e
    split at e <;> cases e
    · nomatch r
    all_goals exact absurd r (n im)
  | configurationReadEnd result =>
    simp only [exec, execConfigurationReadEnd] at e
    split at e
    · split at e
      · cases e; nomatch r
      · split at e <;> cases e
        · obtain rfl : _ = im := Configured.running.inj ((enterRunning_configured _ s).symm.trans r)
          exact shareStarted_enterRunning _ s
        · nomatch r
    all_goals cases e; exact absurd r (n im)
  | passTimeout =>
    simp only [exec, execPassTimeout] at e
    split at e <;> cases e
    · nomatch r
    all_goals exact absurd r (n im)
  | configure image =>
    rcases exec_configure e with quiet | ⟨-, im', -, rfl⟩
    · exact absurd (quiet.1.configured.symm.trans r) (n im)
    · obtain rfl : im' = im := Configured.running.inj ((enterRunning_configured _ _).symm.trans r)
      obtain ⟨u, grl, served⟩ := (shareStarted_enterRunning im' (finishCaptured (.configure image) s)).then_unmoved
        (unmoved_respond _ _ _ _)
      exact ⟨u, fun o => (grl o).trans (by rw [finishCaptured_keeps]; cases o <;> rfl), served⟩
  | _ => cases k

/-- The rows of the share line and the roster do nothing to the configuration of a part that does not run. -/
theorem line_not_running {c : Instr} (k : changesLine c = true) (start : startsUp c = false) {s t : State}
    (n : ∀ im, s.configured ≠ .running im) (e : exec c s = .next t) : t.configured = s.configured := by
  have stays : ∀ (u : State) (f : Image → State), u.configured = s.configured → (whenRunning u f).configured = s.configured :=
    fun u f same => by rw [whenRunning_not_running (by rw [same]; exact n)]; exact same
  cases c with
  | powerOn | resetLineAsserted | resetLineReleased | configurationReadEnd | passTimeout | configure => cases start
  | restart =>
    rcases exec_restart e with quiet | ⟨im, -, ⟨r, -⟩, -⟩
    · exact quiet.1.configured
    · exact absurd r (n im)
  | lineIdle => cases e; split <;> rfl
  | frameStartBit =>
    cases e
    split
    · exact stays _ _ rfl
    · rfl
  | leaveTimerExpiry | sharePeriodTick | quarterPeriodMark | attemptStart | arbitrationLoss | bitError | restTimerExpiry
  | ownFrameCompletion | stuffViolation | announceReceived | leaveReceived => cases e; exact stays s _ rfl
  | _ => cases k

theorem shareStarted_exec (c : Instr) {s t : State} {im : Image} (n : ∀ im, s.configured ≠ .running im) (e : exec c s = .next t)
    (r : t.configured = .running im) : ShareStarted im s t := by
  cases k : changesLine c with
  | false =>
    obtain ⟨u, eu, elsewhere⟩ := exec_elsewhere c s k
    rw [eu] at e
    cases e
    exact absurd ((elsewhere.2 n).configured.symm.trans r) (n im)
  | true =>
    cases start : startsUp c with
    | true => exact shareStarted_startsUp start n e r
    | false => exact absurd ((line_not_running k start n e).symm.trans r) (n im)

-- A step.

/-- A step takes a command or lets 0.1 ms pass; the queue and the free values are the one thing it changes besides. -/
theorem step_next_cases {s t : State} (e : step s = .next t) :
    t = advance s ∨ ∃ c pending draws, exec c { s with pending := pending, draws := draws } = .next t := by
  unfold step at e
  split at e
  · exact .inr ⟨_, _, s.draws, e⟩
  · generalize dueEvents s = due at e
    match due, e with
    | [], e => cases e; exact .inl rfl
    | [c], e => exact .inr ⟨c, s.pending, s.draws, e⟩
    | _ :: _ :: _, e => exact .inr ⟨_, s.pending, _, e⟩

/-- 0.1 ms counts and samples, which is no input of the share. -/
theorem unmoved_advance {im : Image} {s : State} (r : s.configured = .running im) : Unmoved s (advance s) := by
  obtain ⟨station, -⟩ := advance_station r
  refine ⟨by rw [station], by rw [station], by rw [station]; exact (Unmoved.refl s).prs, fun o => ?_⟩
  obtain ⟨d, outlet⟩ := advance_out r o
  rw [outlet]
  split
  · split
    · obtain ⟨_, _, counted, -⟩ := countOutlet_spec (sampleOutlet im (tenthOutlet im (s.out o))) d
      rw [counted]; rfl
    · rfl
  · rfl

/-- A step serves the share of a part that runs after it, or has just brought it to RUNNING. -/
theorem step_serves {s t : State} {im : Image} (e : step s = .next t) (r : t.configured = .running im) :
    s.configured = .running im ∧ Served im s t ∨ (∀ im', s.configured ≠ .running im') ∧ ShareStarted im s t := by
  by_cases running : ∃ im', s.configured = .running im'
  · obtain ⟨im', r'⟩ := running
    have serves : EndsServed im' s t := by
      rcases step_next_cases e with rfl | ⟨c, pending, draws, e⟩
      · exact .inl (.same (unmoved_advance r'))
      · have queued : Unmoved s { s with pending := pending, draws := draws } := .of_outlets rfl rfl rfl rfl rfl
        exact (exec_serves c e).after_unmoved queued im' r'
    rcases serves with served | stops
    · obtain rfl : im' = im := Configured.running.inj (r'.symm.trans (served.configured.symm.trans r))
      exact .inl ⟨r', served⟩
    · exact absurd r (stops im)
  · have n : ∀ im', s.configured ≠ .running im' := fun im' h => running ⟨im', h⟩
    refine .inr ⟨n, ?_⟩
    rcases step_next_cases e with rfl | ⟨c, pending, draws, e⟩
    · obtain ⟨-, -, same | ⟨-, n'⟩⟩ := advance_line s
      · exact absurd (same.symm.trans r) (n im)
      · exact absurd r (n' im)
    · obtain ⟨u, grl, started⟩ := shareStarted_exec c (s := { s with pending := pending, draws := draws }) n e r
      exact ⟨u, grl, started⟩

-- The invariants of the statements.

theorem shareCurrent_running {im : Image} {s : State} (r : s.configured = .running im) : ShareCurrent s ↔ SharesFollow im s := by
  constructor
  · intro h
    obtain ⟨station, a, b⟩ := h im r
    exact ⟨station, fun o => by cases o; exacts [a, b]⟩
  · rintro ⟨station, outlet⟩ im' r'
    obtain rfl : im = im' := Configured.running.inj (r.symm.trans r')
    exact ⟨station, outlet .a, outlet .b⟩

theorem handedOver_running {im : Image} {s : State} (r : s.configured = .running im) : HandedOver s ↔ GrantsFollow im s := by
  constructor
  · exact fun h o => h im o r
  · intro h im' o r'
    obtain rfl : im = im' := Configured.running.inj (r.symm.trans r')
    exact h o

theorem capKept_running {im : Image} {s : State} (r : s.configured = .running im) : CapKept s ↔ Capped im s := by
  simp only [CapKept, r, Capped, isolatedShare, stationCommanded]

theorem capKept_not_running {s : State} (n : ∀ im, s.configured ≠ .running im) : CapKept s := by
  unfold CapKept
  split
  · exact absurd ‹_› (n _)
  · trivial
  · trivial

theorem OutletGrants.withheldAt {im : Image} {o : Outlet} {u : OutletState} (h : OutletGrants im o u) : WithheldAt im o u := by
  obtain ⟨unfit, -, -, idle, -⟩ := h
  intro rests
  by_cases dispenses : u.osc.state = .dispensing
  · obtain ⟨-, -, commanded, -, pending⟩ := unfit (Bool.eq_false_iff.mpr fun fits => rests ⟨fits, dispenses⟩)
    exact ⟨commanded, pending⟩
  · exact idle dispenses

theorem GrantsSafe.withheld {im : Image} {s : State} (h : GrantsSafe s) (r : s.configured = .running im) : Withheld im s := by
  rw [GrantsSafe, r] at h
  intro o
  cases o
  exacts [h.1.withheldAt, h.2.1.withheldAt]

theorem GrantsSafe.not_running {s : State} (h : GrantsSafe s) (n : ∀ im, s.configured ≠ .running im) (o : Outlet) :
    (s.out o).grl.commanded = 0 ∧ (s.out o).grl.pending = none := by
  have rest : AtRest s.outA ∧ AtRest s.outB := by
    unfold GrantsSafe at h
    split at h
    · exact absurd ‹_› (n _)
    · exact h
    · exact h
  obtain ⟨⟨-, -, a, -, a'⟩, ⟨-, -, b, -, b'⟩⟩ := rest
  cases o
  exacts [⟨a, a'⟩, ⟨b, b'⟩]

/-- Settles O12: a rise keeps within iso outside JOINED, a computation leaves setpoints at most the targets, which share iso, and nothing
else but these raises a setpoint or changes what iso is worked from. -/
theorem isolationCapStays : Obligations.IsolationCapStays := by
  intro s t safe kept e
  by_cases running : ∃ im, t.configured = .running im
  · obtain ⟨im, r⟩ := running
    rw [capKept_running r]
    rcases step_serves e r with ⟨r', served⟩ | ⟨n, u, grl, started⟩
    · exact served.capped (safe.withheld r') ((capKept_running r').mp kept)
    · have withheld : Withheld im u := fun o => by
        obtain ⟨commanded, pending⟩ := safe.not_running n o
        exact withheldAt_of_none (by rw [grl, commanded]) (by rw [grl, pending])
      obtain ⟨shares, grants⟩ := follow_computation im u
      exact started.capped (capped_of_follow withheld.computation shares grants)
  · exact capKept_not_running fun im r => running ⟨im, r⟩

/-- Settles O13: whatever changes an input of the share ends in a computation, which leaves the share result and the grants as its inputs
and the targets give them. -/
theorem shareFollowsItsInputs : Obligations.ShareFollowsItsInputs := by
  intro s t current handed e
  have follows : ∀ im, t.configured = .running im → SharesFollow im t ∧ GrantsFollow im t := fun im r => by
    rcases step_serves e r with ⟨r', served⟩ | ⟨-, u, -, started⟩
    · exact served.follow ⟨(shareCurrent_running r').mp current, (handedOver_running r').mp handed⟩
    · obtain ⟨shares, grants⟩ := follow_computation im u
      exact ⟨started.sharesFollow shares, started.grantsFollow grants⟩
  exact ⟨fun im r => (shareCurrent_running r).mpr (follows im r).1 im r, fun im o r => (handedOver_running r).mpr (follows im r).2 im o r⟩

end Sys2Proof.Machine
end

section
/-! PROOF. The reading commands (R67, R144, R176, R188 to R190, R195): what they answer, and the bytes of the answers (R211, R212, Table
24). -/

namespace Sys2Proof.Machine

-- The answers.

/-- The end of a captured command is no reading: every value that a command answers stands as it was. -/
theorem finishCaptured_captured (c : Instr) (s : State) : ∃ x, finishCaptured c s = { s with hpt.captured := x } :=
  ⟨_, finishCaptured_keeps c s⟩

/-- A state that holds the response to a command that is taken, and no other change (R181, R182). -/
def answered (c : Instr) (r : Response) (s : State) : State := { finishCaptured c s with hpt.held := r }

theorem hostAny_taken {im : Image} {s : State} (h : Serves im s ∨ s.configured = .unconfigured) (c : Instr) (f : State → State) :
    hostAny c f s = f (finishCaptured c s) := by
  rcases h with serves | unconfigured
  · exact hostAny_serves serves c f
  · exact hostAny_unconfigured unconfigured c f

theorem exec_nop_answers {im : Image} {s : State} (h : Serves im s ∨ s.configured = .unconfigured) :
    exec .nop s = .next (answered .nop ⟨.ok, 1, []⟩ s) :=
  congrArg Host.Outcome.next (hostAny_taken h _ _)

theorem exec_status_answers {im : Image} {s : State} (h : Serves im s ∨ s.configured = .unconfigured) :
    exec .status s = .next (answered .status ⟨.ok, 2, statusPayload s⟩ s) := by
  refine congrArg Host.Outcome.next ((hostAny_taken h _ _).trans ?_)
  obtain ⟨x, kept⟩ := finishCaptured_captured .status s
  rw [answered, kept]; rfl

section
variable {im : Image} {s : State} (h : Serves im s)
include h

theorem exec_lineStatus_answers : exec .lineStatus s = .next (answered .lineStatus ⟨.ok, 3, lineStatusPayload s⟩ s) := by
  refine congrArg Host.Outcome.next ((hostRunning_serves h _ _ _).trans ?_)
  obtain ⟨x, kept⟩ := finishCaptured_captured .lineStatus s
  rw [answered, kept]; rfl

theorem exec_outletStatus_answers (x : Byte) :
    exec (.outletStatus x) s =
      .next (answered (.outletStatus x) ((outletOf x).elim ⟨.badValue, 9, []⟩ fun o => ⟨.ok, 9, outletPayload im s o⟩) s) := by
  refine congrArg Host.Outcome.next ((hostRunning_serves h _ _ _).trans ?_)
  obtain ⟨y, kept⟩ := finishCaptured_captured (.outletStatus x) s
  rw [answered, kept]
  cases outletOf x <;> rfl

theorem exec_tariffRead_answers (x : Byte) :
    exec (.tariffRead x) s =
      .next (answered (.tariffRead x) ((bankOf x).elim ⟨.badValue, 13, []⟩ fun bank => ⟨.ok, 13, tariffPayload s bank⟩) s) := by
  refine congrArg Host.Outcome.next ((hostRunning_serves h _ _ _).trans ?_)
  obtain ⟨y, kept⟩ := finishCaptured_captured (.tariffRead x) s
  rw [answered, kept]
  cases bankOf x <;> rfl

theorem exec_rosterRead_answers (x : Byte) :
    exec (.rosterRead x) s =
      .next (answered (.rosterRead x)
        (if x.toNat = 0 ∨ 31 < x.toNat then ⟨.badValue, 10, []⟩ else ⟨.ok, 10, rosterPayload s x.toNat⟩) s) := by
  refine congrArg Host.Outcome.next ((hostRunning_serves h _ _ _).trans ?_)
  obtain ⟨y, kept⟩ := finishCaptured_captured (.rosterRead x) s
  rw [answered, kept]
  dsimp only
  split <;> rfl

theorem exec_recordPeek_empty (empty : s.stu.queue = []) : exec .recordPeek s = .next (answered .recordPeek ⟨.queueEmpty, 14, []⟩ s) := by
  refine congrArg Host.Outcome.next ((hostRunning_serves h _ _ _).trans ?_)
  obtain ⟨x, kept⟩ := finishCaptured_captured .recordPeek s
  simp only [answered, kept, empty]; rfl

theorem exec_recordPeek_oldest {r : Record} {rest : List Record} (oldest : s.stu.queue = r :: rest) :
    exec .recordPeek s = .next (answered .recordPeek ⟨.ok, 14, be 1 (rest.length + 1) ++ recordBytes r⟩ s) := by
  refine congrArg Host.Outcome.next ((hostRunning_serves h _ _ _).trans ?_)
  obtain ⟨x, kept⟩ := finishCaptured_captured .recordPeek s
  simp only [answered, kept, oldest]; rfl

end

theorem outletOf_eq_none {x : Byte} (h : 1 < x.toNat) : outletOf x = none := by
  unfold outletOf
  rw [if_neg (by rintro rfl; simp at h), if_neg (by rintro rfl; simp at h)]

theorem bankOf_eq_none {x : Byte} (h : 1 < x.toNat) : bankOf x = none := by
  unfold bankOf
  rw [if_neg (by rintro rfl; simp at h), if_neg (by rintro rfl; simp at h)]

-- The bytes of a value (R211, R212).

theorem bytes16_eq (w : BitVec 16) : bytes16 w = be 2 w.toNat := by
  simp only [bytes16, be, List.cons.injEq, and_true]
  constructor <;> exact BitVec.eq_of_toNat_eq (by simp [Nat.shiftRight_eq_div_pow])

theorem bytes32_eq (w : BitVec 32) : bytes32 w = be 4 w.toNat := by
  simp only [bytes32, be, List.cons.injEq, and_true]
  refine ⟨?_, ?_, ?_, ?_⟩ <;> exact BitVec.eq_of_toNat_eq (by simp [Nat.shiftRight_eq_div_pow])

theorem toNat_maskOf (x : BitVec 15) : (maskOf x).toNat = x.toNat := BitVec.toNat_setWidth_of_le (by decide)

theorem boolByte_eq (x : Bool) : boolByte x = be 1 (if x then 1 else 0) := by cases x <;> rfl

theorem beOpt_eq_getD (n : Nat) (x : Option Nat) : beOpt n x = be n (x.getD (256 ^ n - 1)) := by cases x <;> rfl

/-- A set as a mask: the sum of its members' weights. -/
theorem setBytes_eq (members : List Bool) :
    setBytes members = be 1 (((members.zipIdx.map fun x => (x.1, 2 ^ x.2)).map fun x => if x.1 then x.2 else 0).sum) := by
  rw [List.map_map]; rfl

theorem sessionCode_eq (x : Session) :
    sessionCode x =
      [Session.idle, .starting, .dispensing, .parked, .dwell, .exhausted, .tripped, .closing, .settleWait].idxOf x := by
  cases x <;> rfl

theorem lineModeCode_eq (x : LineMode) : lineModeCode x = [LineMode.joined, .halfHeard, .isolated].idxOf x := by cases x <;> rfl

theorem txCode_eq (x : Tx) : txCode x = [Tx.on, .resting, .barred].idxOf x := by cases x <;> rfl

theorem tripCode_eq :
    tripCode = fun x =>
      [TripCause.eStop, .contactor, .moduleFault, .startTimeout, .confirmTimeout, .overDraw].idxOf x := by
  funext x; cases x <;> rfl

theorem phaseCode_eq : phaseCode = fun x => [ClosePhase.outputWait, .openWait].idxOf x := by funext x; cases x <;> rfl

theorem endCauseCode_eq (x : EndCause) :
    endCauseCode x =
      [EndCause.hostClose, .aborted, .tripped .eStop, .tripped .contactor, .tripped .moduleFault, .tripped .startTimeout,
        .tripped .confirmTimeout, .tripped .overDraw].idxOf x := by
  cases x with
  | hostClose => rfl
  | aborted => rfl
  | tripped c => cases c <;> rfl

theorem outletCode_eq (x : Outlet) : outletCode x = [Outlet.a, .b].idxOf x := by cases x <;> rfl

theorem bankCode_eq (x : Bank) : bankCode x = [Bank.a, .b].idxOf x := by cases x <;> rfl

theorem captureCode_eq (x : Capture) : captureCode x = [Capture.off, .waiting, .timing, .timedOut].idxOf x := by cases x <;> rfl

theorem lookupCode_eq (x : Lookup) : lookupCode x = [Lookup.none, .found, .noWindow, .overlap, .clockUnset].idxOf x := by
  cases x <;> rfl

@[simp] theorem bytes16_length (w : BitVec 16) : (bytes16 w).length = 2 := rfl
@[simp] theorem bytes32_length (w : BitVec 32) : (bytes32 w).length = 4 := rfl
@[simp] theorem boolByte_length (x : Bool) : (boolByte x).length = 1 := rfl
@[simp] theorem levelByte_length (x : Bool) : (levelByte x).length = 1 := rfl
@[simp] theorem setBytes_length (members : List Bool) : (setBytes members).length = 1 := rfl
@[simp] theorem timerBytes_length (n now : Nat) (t : Timer) : (timerBytes n now t).length = n := beOpt_length ..

theorem outletPayload_unfitted {im : Image} {o : Outlet} (unfit : fitted im o = false) (s : State) : outletPayload im s o = [0] := by
  rw [outletPayload, unfit]; rfl

theorem outletPayload_fitted {im : Image} {o : Outlet} (fits : fitted im o = true) (s : State) :
    outletPayload im s o =
      [1] ++ oscFields s.eStop (s.out o) ++ shareFields (s.out o).share ++ grantFields s.now s.grl (s.out o).grl ++
        meterFields (s.out o).mtf ++ tariffFields (s.out o).tru ++ accountFields (s.out o).acc (s.out o).heldRecord.isSome :=
  if_pos fits

theorem rosterPayload_entry {s : State} {id : Nat} {e : Entry} (entry : entryOf s.prs.roster id = some e) :
    rosterPayload s id = [1] ++ entryFields e := by
  rw [rosterPayload, entry]; rfl

theorem tariffPayload_contents (s : State) (bank : Bank) :
    tariffPayload s bank =
      setBytes [(s.tru.bank bank).isSome, s.tru.selected == bank, s.outA.tru.binding == some bank, s.outB.tru.binding == some bank,
        s.tru.clock.set] ++ be 2 s.tru.clock.minute ++ be 1 s.tru.clock.second ++ ((s.tru.bank bank).map bankBytes).getD [] := by
  unfold tariffPayload
  cases s.tru.bank bank <;> rfl

theorem outletPayload_length {im : Image} {o : Outlet} (fits : fitted im o = true) (s : State) : (outletPayload im s o).length = 100 := by
  simp [outletPayload, fits, oscFields, headerFields, shareFields, grantFields, meterFields, tariffFields, accountFields]

-- The fields of a record (Table 24).

/-- Each part of a concatenation stands at the sum of the lengths before it. -/
theorem take_drop_flatten {α : Type} (l : List (List α)) (rest : List α) (i : Nat) :
    ((l.flatten ++ rest).drop ((l.map List.length).take i).sum).take ((l.map List.length).getD i 0) = l.getD i [] := by
  induction l generalizing i with
  | nil => simp
  | cons x l ih =>
    cases i with
    | zero => simp
    | succ i =>
      have tail := ih i
      simpa [← List.drop_drop] using tail

/-- The fields of a record before its segments, in their order. -/
def recordFields (r : Record) : List (List Byte) :=
  [be 2 r.sequence.toNat, be 1 (outletCode r.outlet), be 4 r.reference.toNat, beOpt 1 (r.bound.map fun x => bankCode x.1),
    beOpt 2 (r.bound.map fun x => x.2.toNat), be 1 r.tier, beOpt 2 r.startClock, be 4 r.duration, be 1 (endCauseCode r.endCause),
    be 4 r.energy, be 2 r.feeApplied, be 4 r.occupancyMinutes, be 5 r.occupancyAmount, be 4 r.total, be 4 r.settled, be 4 r.hold,
    be 4 r.uncollected, be 4 r.parkedSeconds, be 2 r.peak,
    setBytes [r.tariffFault, r.saturated, r.capped, r.exhausted, r.forcedOpen], be 1 r.segments.length]

/-- The lengths of those fields (Table 24). -/
def recordLengths : List Nat := [2, 1, 4, 1, 2, 1, 2, 4, 1, 4, 2, 4, 5, 4, 4, 4, 4, 4, 2, 1, 1]

theorem recordBytes_eq (r : Record) : recordBytes r = (recordFields r).flatten ++ r.segments.flatMap segmentFields := by
  unfold recordBytes recordFields
  rw [bytes16_eq, bytes32_eq]
  simp only [List.flatten_cons, List.flatten_nil, List.append_nil]
  simp only [List.append_assoc]

theorem recordFields_length (r : Record) : (recordFields r).map List.length = recordLengths := by
  simp [recordFields, recordLengths]

theorem recordBytes_field (r : Record) (i : Nat) :
    ((recordBytes r).drop (recordLengths.take i).sum).take (recordLengths.getD i 0) = (recordFields r).getD i [] := by
  rw [recordBytes_eq, ← recordFields_length r]
  exact take_drop_flatten _ _ i

theorem segmentFields_length (g : Segment) : (segmentFields g).length = 10 := by simp [segmentFields]

theorem segments_length (l : List Segment) : (l.flatMap segmentFields).length = 10 * l.length := by
  induction l with
  | nil => rfl
  | cons g l ih => simp only [List.flatMap_cons, List.length_append, segmentFields_length, ih, List.length_cons]; omega

theorem segments_field {l : List Segment} {i : Nat} {g : Segment} (h : l[i]? = some g) :
    ((l.flatMap segmentFields).drop (10 * i)).take 10 = segmentFields g := by
  induction l generalizing i with
  | nil => simp at h
  | cons x l ih =>
    rw [List.flatMap_cons]
    cases i with
    | zero =>
      obtain rfl : x = g := by simpa using h
      exact List.take_left' (segmentFields_length x)
    | succ i =>
      rw [show 10 * (i + 1) = (segmentFields x).length + 10 * i by rw [segmentFields_length]; omega, List.drop_length_add_append]
      exact ih (by simpa using h)

theorem recordFields_flatten_length (r : Record) : (recordFields r).flatten.length = 57 := by
  rw [List.length_flatten, recordFields_length]; rfl

theorem recordBytes_length (r : Record) : (recordBytes r).length = 57 + 10 * r.segments.length := by
  rw [recordBytes_eq, List.length_append, recordFields_flatten_length, segments_length]

/-- A record's segments stand after its fields, ten bytes each. -/
theorem recordBytes_segment {r : Record} {i : Nat} {g : Segment} (h : r.segments[i]? = some g) :
    ((recordBytes r).drop (57 + 10 * i)).take 10 = segmentFields g := by
  rw [recordBytes_eq, ← recordFields_flatten_length r, List.drop_length_add_append]
  exact segments_field h

/-- Settles O21: each reading command through its gate, and each payload as its fields one after another. -/
theorem readingCommandsOnlyAnswer : Obligations.ReadingCommandsOnlyAnswer := by
  refine ⟨fun im s x => ⟨fun taken => ⟨exec_nop_answers taken, exec_status_answers taken⟩, fun h => ?_⟩,
    fun im s o fits => ?_, fun r => ?_⟩
  · have outlet := exec_outletStatus_answers h x
    have tariff := exec_tariffRead_answers h x
    have roster := exec_rosterRead_answers h x
    refine ⟨exec_lineStatus_answers h, fun high => ⟨?_, ?_⟩, fun o named fits => ?_, fun o named unfit => ?_, fun bank named => ?_,
      fun out => ?_, fun low high => ?_, exec_recordPeek_empty h, fun r rest oldest => exec_recordPeek_oldest h oldest⟩
    · rw [outletOf_eq_none high] at outlet; exact outlet
    · rw [bankOf_eq_none high] at tariff; exact tariff
    · rw [named] at outlet; exact outlet
    · rw [named, Option.elim_some, outletPayload_unfitted unfit] at outlet; exact outlet
    · rw [named] at tariff; exact tariff
    · rw [if_pos out] at roster; exact roster
    · rw [if_neg (by omega)] at roster; exact roster
  · intro u opt yes second session mode transmitter cause letter members claim h
    have opt_one : ∀ x, opt 1 x = beOpt 1 x := fun x => by cases x <;> rfl
    have opt_two : ∀ x, opt 2 x = beOpt 2 x := fun x => by cases x <;> rfl
    have yes_eq : yes = boolByte := funext fun x => (boolByte_eq x).symm
    have second_eq : second = levelByte := rfl
    have session_eq : session = fun x => be 1 (sessionCode x) := funext fun x => congrArg (be 1) (sessionCode_eq x).symm
    have mode_eq : mode = fun x => be 1 (lineModeCode x) := funext fun x => congrArg (be 1) (lineModeCode_eq x).symm
    have transmitter_eq : transmitter = be 1 (txCode s.slc.tx) := congrArg (be 1) (txCode_eq _).symm
    have claim_eq : claim = claimFields := funext fun c => by rw [claimFields, ← yes_eq]
    have cause_eq : cause = tripCode := tripCode_eq.symm
    have letter_eq : letter = bankCode := funext fun x => (bankCode_eq x).symm
    simp only [opt_one, opt_two, yes_eq, second_eq, session_eq, mode_eq, transmitter_eq, claim_eq, cause_eq, letter_eq]
    refine ⟨?_, ?_, fun id missing => ?_, fun id e entry => ?_, ?_, outletPayload_length fits s, fun bank => ?_, fun _ => rfl, rfl⟩
    · cases configured : s.configured
      all_goals
        simp only [statusPayload, configured, configuredCode, bytes16_eq, toNat_maskOf, List.flatten_cons, List.flatten_nil, List.append_nil]
        simp only [List.append_assoc]
    · simp only [lineStatusPayload, List.flatten_cons, List.flatten_nil, List.append_nil]
      simp only [List.append_assoc]
    · rw [rosterPayload, missing]
    · rw [rosterPayload_entry entry]
      simp only [entryFields, bytes32_eq, settledEntry, levelByte, List.flatten_cons, List.flatten_nil, List.append_nil]
      simp only [List.append_assoc]
    · have two : ∀ x y, setBytes [x, y] = members [(x, 1), (y, 2)] := fun x y => setBytes_eq _
      have three : ∀ x y z, setBytes [x, y, z] = members [(x, 1), (y, 2), (z, 4)] := fun x y z => setBytes_eq _
      rw [outletPayload_fitted fits]
      cases park : (s.out o).grl.parkHold
      all_goals
        simp only [oscFields, headerFields, shareFields, grantFields, meterFields, tariffFields, accountFields, timerBytes, two, three,
          phaseCode_eq, captureCode_eq, lookupCode_eq, bytes32_eq, ← boolByte_eq, park, parkHoldCode, u, h, List.flatten_cons,
          List.flatten_nil, List.append_nil]
        simp only [List.append_assoc]
    · have five : ∀ v w x y z, setBytes [v, w, x, y, z] = members [(v, 1), (w, 2), (x, 4), (y, 8), (z, 16)] :=
        fun v w x y z => setBytes_eq _
      rw [tariffPayload_contents]
      simp only [five, List.flatten_cons, List.flatten_nil, List.append_nil]
      simp only [List.append_assoc]
  · intro field
    have stands : ∀ i, field (recordLengths.take i).sum (recordLengths.getD i 0) = (recordFields r).getD i [] := recordBytes_field r
    have bound_then : field 7 3 = field 7 1 ++ field 8 2 := by
      change ((recordBytes r).drop 7).take (1 + 2) = _
      rw [List.take_add, List.drop_drop]
    refine ⟨recordBytes_length r, stands 0, ?_, stands 2, fun x bound => ⟨?_, ?_⟩, fun unbound => ?_, stands 5, ?_, stands 7, ?_, stands 9,
      stands 10, stands 11, stands 12, stands 13, stands 14, stands 15, stands 16, stands 17, stands 18, ?_,
      stands 20, fun i g segment => recordBytes_segment segment⟩
    · exact (stands 1).trans (congrArg (be 1) (outletCode_eq _))
    · exact (stands 3).trans (by simp only [recordFields, bound, bankCode_eq]; rfl)
    · exact (stands 4).trans (by simp only [recordFields, bound]; rfl)
    · rw [bound_then]
      exact congrArg₂ (· ++ ·) ((stands 3).trans (by simp only [recordFields, unbound]; rfl))
        ((stands 4).trans (by simp only [recordFields, unbound]; rfl))
    · exact (stands 6).trans (beOpt_eq_getD 2 _)
    · exact (stands 8).trans (congrArg (be 1) (endCauseCode_eq _))
    · exact (stands 19).trans ((setBytes_eq _).trans (congrArg (be 1) (by simp [add_assoc])))

end Sys2Proof.Machine
end

section
/-! PROOF. Setpoint words, their end, and the expiry of the park hold (R71, R74, R81, R213). -/

namespace Sys2Proof.Machine

section
variable {im : Image} {s : State} {o : Outlet} (r : s.configured = .running im) (fits : fitted im o = true)
include r fits

/-- What a row of a fitted outlet of a RUNNING part does. -/
theorem whenFitted_running (f : Image → State) : whenFitted s o f = f im := by
  rw [whenFitted, whenRunning_running r, if_pos fits]

theorem exec_setpointWordEnd (sent : (s.out o).grl.word.isSome = true) : exec (.setpointWordEnd o) s = .next (s.modOut o endWord) := by
  rw [exec, execSetpointWordEnd, whenFitted_running r fits, if_pos sent]

theorem exec_parkHoldExpiry {time : Nat} (held : (s.out o).grl.parkHold = .running time) :
    exec (.parkHoldExpiry o) s = .next (s.modOut o fun u => { u with grl.parkHold := .expired }) := by
  rw [exec, execParkHoldExpiry, whenFitted_running r fits, held]

end

theorem modOut_congr {s : State} {o : Outlet} {f g : OutletState → OutletState} (h : f (s.out o) = g (s.out o)) :
    s.modOut o f = s.modOut o g := congrArg (s.setOut o) h

theorem endWord_again {u : OutletState} (again : u.grl.wordAgain = true) :
    endWord u =
      { u with
        grl.word := some (setptWord u.grl.commanded), grl.wordAgain := false, grl.wordLeft := 3
        grl.earlierRise := riseInFilter u } := by
  unfold endWord
  dsimp only
  rw [if_pos again]
  rfl

theorem endWord_last {u : OutletState} (last : u.grl.wordAgain = false) :
    endWord u = { u with grl.word := none, grl.wordLeft := 0, grl.earlierRise := riseInFilter u } := by
  unfold endWord
  dsimp only
  rw [if_neg (Bool.eq_false_iff.mp last)]

/-- The check byte of a setpoint word (R213). -/
def wordCheck (steps : Nat) : Nat := 255 - (steps / 256 + steps % 256) % 256

theorem wordCheck_lt (steps : Nat) : wordCheck steps < 256 := by unfold wordCheck; omega

theorem setpointWord_toNat {steps : Nat} (h : steps < 65536) : (setpointWord steps).toNat = steps * 256 + wordCheck steps := by
  have check := wordCheck_lt steps
  rw [setpointWord, BitVec.toNat_ofNat, ← wordCheck]
  exact Nat.mod_eq_of_lt (by omega)

/-- A run of bits of a word as a number. -/
theorem toNat_extract {w : Nat} (x : BitVec w) (start len : Nat) : (x.extractLsb' start len).toNat = x.toNat / 2 ^ start % 2 ^ len := by
  rw [BitVec.extractLsb'_toNat, Nat.shiftRight_eq_div_pow]

theorem setpointWord_steps {steps : Nat} (h : steps < 65536) : ((setpointWord steps).extractLsb' 8 16).toNat = steps := by
  have check := wordCheck_lt steps
  rw [toNat_extract, setpointWord_toNat h]
  omega

/-- The two bytes of the setpoint and the check add up to 255 modulo 256 (R213). -/
theorem setpointWord_sum {steps : Nat} (h : steps < 65536) :
    (setpointWord steps).extractLsb' 16 8 + (setpointWord steps).extractLsb' 8 8 + (setpointWord steps).extractLsb' 0 8 = 255 := by
  have check := wordCheck_lt steps
  have high : ((setpointWord steps).extractLsb' 16 8).toNat = steps / 256 := by rw [toNat_extract, setpointWord_toNat h]; omega
  have low : ((setpointWord steps).extractLsb' 8 8).toNat = steps % 256 := by rw [toNat_extract, setpointWord_toNat h]; omega
  have sum : ((setpointWord steps).extractLsb' 0 8).toNat = wordCheck steps := by rw [toNat_extract, setpointWord_toNat h]; omega
  apply BitVec.eq_of_toNat_eq
  rw [BitVec.toNat_add, BitVec.toNat_add, high, low, sum]
  change _ = 255
  unfold wordCheck
  omega

/-- The bits of a setpoint word in the order they are sent (R213): LOW, the data bits, HIGH. -/
theorem setptWord_getMsbD (steps i : Nat) :
    (setptWord steps).getMsbD i =
      if 25 ≤ i then (1#1).getMsbD (i - 25) else if 1 ≤ i then (setpointWord steps).getMsbD (i - 1) else (0#1).getMsbD i := by
  rw [setptWord, BitVec.getMsbD_append, BitVec.getMsbD_append]

theorem setptWord_data (steps : Nat) : (setptWord steps).extractLsb' 1 24 = setpointWord steps := by
  refine BitVec.eq_of_getMsbD_eq fun i hi => ?_
  have sent := setptWord_getMsbD steps (1 + i)
  rw [if_neg (by omega), if_pos (by omega), Nat.add_sub_cancel_left] at sent
  rw [← sent, BitVec.getMsbD, BitVec.getMsbD, BitVec.getLsbD_extractLsb', decide_eq_true hi, decide_eq_true (by omega),
    decide_eq_true (by omega), show 1 + (24 - 1 - i) = 26 - 1 - (1 + i) by omega]
  rfl

theorem setptLevel_resting {g : Grl} (rests : g.word = none) (bit : Nat) : setptLevel g bit = true := by
  rw [setptLevel, rests]

theorem setptLevel_sending {g : Grl} {w : BitVec 26} (sends : g.word = some w) (bit : Nat) : setptLevel g bit = w.getMsbD bit := by
  rw [setptLevel, sends]

/-- Settles O40: the two rows by their equations, and the word of R213 by its value as a number and its bits in turn. -/
theorem wordsEndAndParkHoldsExpire : Obligations.WordsEndAndParkHoldsExpire := by
  refine ⟨⟨fun im s o r fits sent => ?_, fun im s o time r fits held => exec_parkHoldExpiry r fits held⟩, fun steps h => ?_⟩
  · have e := exec_setpointWordEnd r fits sent
    exact ⟨fun again => e.trans (congrArg _ (modOut_congr (endWord_again again))),
      fun last => e.trans (congrArg _ (modOut_congr (endWord_last last)))⟩
  · refine ⟨setpointWord_steps h, setpointWord_sum h, setptWord_data steps, fun g => ⟨setptLevel_resting, fun sends => ?_⟩⟩
    simp only [setptLevel_sending sends, setptWord_getMsbD]
    refine ⟨rfl, rfl, fun i => ?_⟩
    rw [if_neg (by omega), if_pos (by omega), Nat.add_sub_cancel_left]

end Sys2Proof.Machine
end

section
/-! PROOF. The hand-over (R72, R73, R76, R80, R82): at one outlet as a function of that outlet and the time (`handed`), and of both. -/

namespace Sys2Proof.Machine

-- Updates of one outlet.

theorem raise_setOut (f : EventFlag) (s : State) (o : Outlet) (x : OutletState) :
    raise f (s.setOut o x) = (raise f s).setOut o x := by cases o <;> rfl

theorem setOut_self (s : State) (o : Outlet) : s.setOut o (s.out o) = s := by cases o <;> rfl

theorem setOut_modOut (s : State) (o : Outlet) (f : OutletState → OutletState) (x : OutletState) :
    (s.modOut o f).setOut o x = s.setOut o x := by cases o <;> rfl

/-- The outlet with the target of its share (R72). -/
def withTarget (u : OutletState) : OutletState := { u with grl.target := u.share.target }

/-- The outlet with its pending rise set or cleared (R76). -/
def withPending (p : Option Nat) (u : OutletState) : OutletState := { u with grl.pending := p }

/-- The outlet with a lower setpoint, by the decrease path (R73). -/
def loweredTo (im : Image) (now n : Nat) (u : OutletState) : OutletState :=
  { u with
    grl := sendWord
      { u.grl with commanded := n, pending := none, unconfirmed := true, confirmTimer := some (now + im.confirmTimeout) }
    mtf.overDraw := 0 }

/-- The outlet with a setpoint above 0 lowered to 0. -/
def loweredToNone (im : Image) (now : Nat) (u : OutletState) : OutletState := if 0 < u.grl.commanded then loweredTo im now 0 u else u

/-- The outlet as it is parked (R80). -/
def parkedOutlet (im : Image) (now : Nat) (u : OutletState) : OutletState :=
  { loweredToNone im now u with
    osc := { u.osc with state := .parked }
    grl := { (loweredToNone im now u).grl with pending := none, parkHold := .running (now + im.parkHold * 1000) } }

/-- The outlet as it resumes (R82). -/
def resumedOutlet (u : OutletState) : OutletState := { u with osc.state := .dispensing, grl.parkHold := .stopped }

/-- The outlet after a hand-over (R72). -/
def handed (im : Image) (o : Outlet) (now : Nat) (u : OutletState) : OutletState :=
  if fitted im o then
    match u.osc.state with
    | .dispensing =>
      if u.share.target < u.osc.header.floor then parkedOutlet im now (withTarget u)
      else if u.share.target < u.grl.commanded then loweredTo im now u.share.target (withTarget u)
      else if u.grl.commanded < u.share.target then withPending (some u.share.target) (withTarget u)
      else withPending none (withTarget u)
    | .parked => if resumes im u then resumedOutlet (withTarget u) else withTarget u
    | .idle | .starting | .dwell | .exhausted | .tripped | .closing | .settleWait => withPending none (withTarget u)
  else u

/-- A change of session state raises the outlet's change event (R118). -/
def changeNoted (o : Outlet) (before after : Session) (s : State) : State :=
  if after = before then s else raise (changeFlag o) s

theorem changeNoted_same (o : Outlet) (x : Session) (s : State) : changeNoted o x x s = s := if_pos rfl

/-- The state with one outlet's part replaced, its change of session noted. -/
def putOutlet (o : Outlet) (v : OutletState) (s : State) : State :=
  (changeNoted o (s.out o).osc.state v.osc.state s).setOut o v

theorem putOutlet_same {o : Outlet} {v : OutletState} {s : State} (h : v.osc.state = (s.out o).osc.state) :
    putOutlet o v s = s.setOut o v := by
  rw [putOutlet, h, changeNoted_same]

theorem putOutlet_change {o : Outlet} {v : OutletState} {s : State} (h : v.osc.state ≠ (s.out o).osc.state) :
    putOutlet o v s = raise (changeFlag o) (s.setOut o v) := by
  rw [putOutlet, changeNoted, if_neg h, raise_setOut]

theorem park_eq_putOutlet {im : Image} {o : Outlet} {s : State} (h : (s.out o).osc.state = .dispensing) :
    park im o s = putOutlet o (parkedOutlet im s.now (s.out o)) s := by
  have change : (parkedOutlet im s.now (s.out o)).osc.state ≠ (s.out o).osc.state := by
    rw [h]; exact (nofun : Session.parked ≠ .dispensing)
  rw [putOutlet_change change, park_eq, loweredToZero, setSession_out, parkedOutlet, loweredToNone]
  split <;> cases o <;> rfl

theorem resume_eq_putOutlet {o : Outlet} {s : State} (h : (s.out o).osc.state = .parked) :
    resume o s = putOutlet o (resumedOutlet (s.out o)) s := by
  have change : (resumedOutlet (s.out o)).osc.state ≠ (s.out o).osc.state := by
    rw [h]; exact (nofun : Session.dispensing ≠ .parked)
  rw [putOutlet_change change]
  cases o <;> rfl

theorem putOutlet_withTarget (o : Outlet) (v : OutletState) (s : State) : putOutlet o v (s.modOut o withTarget) = putOutlet o v s := by
  have state : ((s.modOut o withTarget).out o).osc.state = (s.out o).osc.state := by rw [out_modOut]; rfl
  by_cases same : v.osc.state = (s.out o).osc.state
  · rw [putOutlet_same same, putOutlet_same (same.trans state.symm), setOut_modOut]
  · rw [putOutlet_change same, putOutlet_change (by rwa [state]), setOut_modOut]

/-- A hand-over at one outlet looks at nothing but that outlet and the time, and changes nothing but that outlet and its change event (R72). -/
theorem handOverAt_eq (im : Image) (o : Outlet) (s : State) :
    handOverAt im o s = putOutlet o (handed im o s.now (s.out o)) s := by
  unfold handOverAt handed
  split
  · extract_lets t c w
    have taken : w.out o = withTarget (s.out o) := out_modOut s o withTarget
    have now : w.now = s.now := modOut_now s o withTarget
    have state : (w.out o).osc.state = (s.out o).osc.state := by rw [taken]; rfl
    have floor : (w.out o).osc.header.floor = (s.out o).osc.header.floor := by rw [taken]; rfl
    have resume : resumes im (w.out o) = resumes im (s.out o) := by rw [taken]; rfl
    have put : ∀ v, putOutlet o v w = putOutlet o v s := fun v => putOutlet_withTarget o v s
    rw [floor, resume]
    clear_value w
    subst t c
    have same : ∀ v, v.osc.state = (s.out o).osc.state → w.setOut o v = putOutlet o v s := fun v h => by
      rw [← put, putOutlet_same (h.trans state.symm)]
    have pends : ∀ p, setPending o p w = putOutlet o (withPending p (withTarget (s.out o))) s := fun p => by
      rw [← same (withPending p (withTarget (s.out o))) rfl, ← taken]; rfl
    have lowers : ∀ n, decrease im o n w = putOutlet o (loweredTo im s.now n (withTarget (s.out o))) s := fun n => by
      rw [← same (loweredTo im s.now n (withTarget (s.out o))) rfl, ← taken, ← now]; rfl
    cases st : (s.out o).osc.state <;> simp only [state, st, pends, lowers]
    case dispensing =>
      split_ifs
      · rw [park_eq_putOutlet (state.trans st), put, now, taken]
      all_goals rfl
    case parked =>
      split_ifs
      · rw [resume_eq_putOutlet (state.trans st), put, taken]
      · rw [← same (withTarget (s.out o)) rfl, ← taken, setOut_self]
  · rw [putOutlet_same rfl, setOut_self]

theorem out_putOutlet (o : Outlet) (v : OutletState) (s : State) : (putOutlet o v s).out o = v := by
  unfold putOutlet changeNoted
  split <;> cases o <;> rfl

-- The hand-over of both outlets.

/-- The change event that a new part of an outlet raises (R118), as a mask. -/
def changeMask (o : Outlet) (before after : Session) : BitVec 15 := if after = before then 0 else flagMask (changeFlag o)

theorem changeNoted_eq (o : Outlet) (x y : Session) (s : State) :
    changeNoted o x y s = { s with hpt.flags := s.hpt.flags ||| changeMask o x y } := by
  unfold changeNoted changeMask
  split
  · rw [show s.hpt.flags ||| 0 = s.hpt.flags from BitVec.or_zero]
  · rfl

theorem or_or_distrib (x y z : BitVec 15) : x ||| y ||| z = (x ||| y) ||| (x ||| z) := by
  rw [← BitVec.or_assoc, BitVec.or_assoc x y x, BitVec.or_comm y x, ← BitVec.or_assoc, BitVec.or_self]

/-- New parts at both outlets, one after the other. -/
theorem putOutlet_both (v w : OutletState) (s : State) :
    putOutlet .b w (putOutlet .a v s) =
      { s with
        hpt := { s.hpt with flags := (putOutlet .a v s).hpt.flags ||| (putOutlet .b w s).hpt.flags }
        outA := v, outB := w } := by
  simp only [putOutlet, changeNoted_eq, setOut_a, setOut_b, out_a, out_b, ← or_or_distrib]

/-- The hand-over at each outlet, from its own values (R72). -/
theorem handOverAt_both (im : Image) (s : State) :
    handOverAt im .b (handOverAt im .a s) =
      { s with
        hpt := { s.hpt with flags := (handOverAt im .a s).hpt.flags ||| (handOverAt im .b s).hpt.flags }
        outA := (handOverAt im .a s).outA, outB := (handOverAt im .b s).outB } := by
  have b : (handOverAt im .a s).out .b = s.out .b := out_handOverAt_other im .a s
  have now := (beside_handOverAt im .a s).now
  rw [handOverAt_eq im .b (handOverAt im .a s), b, now, handOverAt_eq im .a, handOverAt_eq im .b, putOutlet_both]
  rw [← out_a (putOutlet _ _ _), ← out_b (putOutlet _ _ _), out_putOutlet, out_putOutlet]

theorem noPending_iff {s : State} : noPending s = true ↔ ∀ o, (s.out o).grl.pending = none := by
  simp only [noPending, Bool.and_eq_true, Option.isNone_iff_eq_none]
  exact ⟨fun h o => by cases o; exacts [h.1, h.2], fun h => ⟨h .a, h .b⟩⟩

/-- The rise hold after a hand-over (R76). -/
theorem holdRises_eq (im : Image) (s : State) : holdRises im s = { s with grl := (holdRises im s).grl } := by
  unfold holdRises settleRises
  (repeat' split) <;> rfl

theorem holdRises_grl (im : Image) (s : State) :
    (holdRises im s).grl =
      if noPending s then ⟨none, false, s.grl.order⟩
      else { s.grl with
        riseHold := if s.grl.riseHold = none ∧ s.grl.riseWaiting = false then some (s.now + im.sharePeriod) else s.grl.riseHold } := by
  unfold holdRises settleRises
  by_cases none : noPending s = true
  · simp only [none, if_true]
  · simp only [none, Bool.false_eq_true, if_false, Bool.and_eq_true, Option.isNone_iff_eq_none, Bool.not_eq_true']
    split <;> rfl

-- The outlet after a hand-over, by cases (R72).

section
variable {im : Image} {o : Outlet} {u : OutletState} (fits : fitted im o = true) (now : Nat)
include fits

theorem handed_parks (state : u.osc.state = .dispensing) (short : u.share.target < u.osc.header.floor) :
    handed im o now u = parkedOutlet im now (withTarget u) := by
  rw [handed, if_pos fits, state]
  exact if_pos short

theorem handed_lowers (state : u.osc.state = .dispensing) (enough : u.osc.header.floor ≤ u.share.target)
    (above : u.share.target < u.grl.commanded) : handed im o now u = loweredTo im now u.share.target (withTarget u) := by
  rw [handed, if_pos fits, state]
  exact (if_neg enough.not_gt).trans (if_pos above)

theorem handed_rises (state : u.osc.state = .dispensing) (enough : u.osc.header.floor ≤ u.share.target)
    (below : u.grl.commanded < u.share.target) : handed im o now u = withPending (some u.share.target) (withTarget u) := by
  rw [handed, if_pos fits, state]
  exact (if_neg enough.not_gt).trans ((if_neg below.not_gt).trans (if_pos below))

theorem handed_stays (state : u.osc.state = .dispensing) (enough : u.osc.header.floor ≤ u.share.target)
    (equal : u.grl.commanded = u.share.target) : handed im o now u = withPending none (withTarget u) := by
  rw [handed, if_pos fits, state]
  exact (if_neg enough.not_gt).trans ((if_neg equal.le.not_gt).trans (if_neg equal.ge.not_gt))

theorem handed_resumes (state : u.osc.state = .parked) (test : resumes im u = true) :
    handed im o now u = resumedOutlet (withTarget u) := by
  rw [handed, if_pos fits, state]
  exact if_pos test

theorem handed_waits (state : u.osc.state = .parked) (test : ¬resumes im u = true) : handed im o now u = withTarget u := by
  rw [handed, if_pos fits, state]
  exact if_neg test

theorem handed_elsewhere (dispensing : u.osc.state ≠ .dispensing) (parked : u.osc.state ≠ .parked) :
    handed im o now u = withPending none (withTarget u) := by
  rw [handed, if_pos fits]
  split
  · exact absurd ‹_› dispensing
  · exact absurd ‹_› parked
  all_goals rfl

end

/-- The resume test (R82). -/
theorem resumes_iff {im : Image} {u : OutletState} :
    resumes im u = true ↔
      u.grl.parkHold = .expired ∧ ∃ h, u.share.hypothetical = some h ∧ u.osc.header.floor + im.resumeMargin ≤ h := by
  unfold resumes
  cases u.share.hypothetical <;> simp

theorem handOverAt_of_handed {im : Image} {o : Outlet} {s : State} {v : OutletState} (h : handed im o s.now (s.out o) = v) :
    handOverAt im o s = putOutlet o v s := h ▸ handOverAt_eq im o s

theorem parkedOutlet_above {im : Image} {now : Nat} {u : OutletState} (above : 0 < u.grl.commanded) :
    parkedOutlet im now u =
      { loweredTo im now 0 u with
        osc := { u.osc with state := .parked }
        grl := { (loweredTo im now 0 u).grl with parkHold := .running (now + im.parkHold * 1000) } } := by
  rw [parkedOutlet, loweredToNone, if_pos above, loweredTo]
  dsimp only
  unfold sendWord
  split <;> rfl

theorem parkedOutlet_zero {im : Image} {now : Nat} {u : OutletState} (zero : u.grl.commanded = 0) :
    parkedOutlet im now u =
      { u with
        osc := { u.osc with state := .parked }
        grl := { u.grl with pending := none, parkHold := .running (now + im.parkHold * 1000) } } := by
  rw [parkedOutlet, loweredToNone, if_neg (by omega)]

/-- The rise hold that a hand-over leaves (R76, log 21). -/
theorem riseHold_handOver (im : Image) (s : State) :
    let t := handOver im s
    let pending := ∃ o, (t.out o).grl.pending ≠ none
    (¬pending → t.grl.riseHold = none ∧ t.grl.riseWaiting = false) ∧
      (pending → t.grl.riseWaiting = s.grl.riseWaiting ∧
        t.grl.riseHold =
          if s.grl.riseHold = none ∧ s.grl.riseWaiting = false then some (s.now + im.sharePeriod) else s.grl.riseHold) := by
  have station : (handOverAt im .b (handOverAt im .a s)).grl = s.grl ∧ (handOverAt im .b (handOverAt im .a s)).now = s.now := by
    rw [handOverAt_both]; exact ⟨rfl, rfl⟩
  have grl := holdRises_grl im (handOverAt im .b (handOverAt im .a s))
  have pends : (∃ o, ((handOver im s).out o).grl.pending ≠ none) ↔
      ¬noPending (handOverAt im .b (handOverAt im .a s)) = true := by
    rw [noPending_iff, not_forall]
    exact exists_congr fun o => by rw [handOver, out_holdRises]
  rw [station.1, station.2, ← handOver] at grl
  intro t pending
  refine ⟨fun no => ?_, fun yes => ?_⟩
  · rw [if_pos (not_not.mp (mt pends.mpr no))] at grl
    rw [grl]
    exact ⟨rfl, rfl⟩
  · rw [if_neg (pends.mp yes)] at grl
    rw [grl]
    exact ⟨rfl, rfl⟩

/-- Settles O42: both outlets by `handOverAt_both`, the rise hold by `riseHold_handOver`, and one outlet by the cases of `handed`. -/
theorem handOverFollowsTheTarget : Obligations.HandOverFollowsTheTarget := by
  refine ⟨fun im s => ?_, fun im s o fits => ?_⟩
  · intro t pending
    have kept : t = { handOverAt im .b (handOverAt im .a s) with grl := t.grl } := holdRises_eq im _
    have order : t.grl.order = (handOverAt im .b (handOverAt im .a s)).grl.order :=
      congrArg (fun w => w.grl.order) (shared_holdRises im _).1
    rw [handOverAt_both] at kept order
    exact ⟨by rw [kept], by rw [kept], order, fun o unfit => handOverAt_unfit unfit s, riseHold_handOver im s⟩
  · intro u target g lowered result
    refine ⟨fun dispensing => ⟨fun short above => ?_, fun short zero => ?_, fun enough above => ?_, fun enough below => ?_,
      fun enough equal => ?_⟩, fun parked => ?_, fun dispensing parked => ?_⟩
    · exact handOverAt_of_handed ((handed_parks fits s.now dispensing short).trans (parkedOutlet_above above))
    · exact handOverAt_of_handed ((handed_parks fits s.now dispensing short).trans (parkedOutlet_zero zero))
    · rw [← dispensing]
      exact handOverAt_of_handed (handed_lowers fits s.now dispensing enough above)
    · rw [← dispensing]
      exact handOverAt_of_handed (handed_rises fits s.now dispensing enough below)
    · rw [← dispensing]
      exact handOverAt_of_handed (handed_stays fits s.now dispensing enough equal)
    · refine ⟨fun yes => handOverAt_of_handed (handed_resumes fits s.now parked (resumes_iff.mpr yes)), fun no => ?_⟩
      rw [← parked]
      exact handOverAt_of_handed (handed_waits fits s.now parked (mt resumes_iff.mp no))
    · exact handOverAt_of_handed (handed_elsewhere fits s.now dispensing parked)

end Sys2Proof.Machine
end

section
/-! PROOF. Trips (R75, R86, R87, R97, R101, R107, R108, R110): what a trip leaves of its outlet, and the four reports. -/

namespace Sys2Proof.Machine

theorem trippable_iff {c : Osc} :
    trippable c = true ↔
      c.state ∈ [.starting, .dispensing, .parked, .dwell, .exhausted] ∨ (c.state = .closing ∧ c.closePhase = some .outputWait) := by
  unfold trippable
  cases c.state <;> simp

-- Rises leave an outlet without a pending rise as it is (R78).

theorem out_raiseBy_other {x o : Outlet} (h : o ≠ x) (n : Nat) (s : State) : (raiseBy x n s).out o = s.out o := by
  rw [raiseBy, modOut_out, if_neg h]

theorem out_serveRises_of_none {im : Image} {o : Outlet} (xs : List Outlet) (n : Nat) {s : State} (h : (s.out o).grl.pending = none) :
    (serveRises im xs n s).out o = s.out o := by
  induction xs generalizing n s with
  | nil => rfl
  | cons x xs ih =>
    unfold serveRises
    split
    · exact ih n h
    · rename_i p pending
      have other : o ≠ x := fun same => by rw [← same, h] at pending; nomatch pending
      have kept := fun k => out_raiseBy_other other k s
      dsimp only
      split
      · rw [ih _ (by rw [kept]; exact h), kept]
      · exact ih n h

theorem out_evaluateRises_of_none {im : Image} {o : Outlet} {s : State} (h : (s.out o).grl.pending = none) :
    (evaluateRises im s).out o = s.out o := by
  have served := out_serveRises_of_none (im := im) s.grl.order (allowance im s) h
  cases o <;> exact served

theorem out_releaseRises_of_none {im : Image} {o : Outlet} {s : State} (h : (s.out o).grl.pending = none) :
    (releaseRises im s).out o = s.out o := by
  unfold releaseRises
  split
  · rw [noted, out_noteUpdate, out_evaluateRises_of_none h]
  · rfl

-- The outlet after a trip.

/-- The outlet as a trip itself leaves it (R86, R87, R108). -/
def tripsOff (cause : TripCause) (u : OutletState) : OutletState :=
  { u with
    osc :=
      { u.osc with
        state := .tripped, tripCause := some cause, driveClosed := false, closePhase := none
        forcedOpen := u.osc.forcedOpen || u.osc.state == .closing
        startTimer := none, mismatchTimer := none, closeTimer := none }
    grl :=
      sendWord
        { u.grl with
          commanded := 0, pending := none, unconfirmed := false, confirmTimer := none, parkHold := .stopped
          inEffect := if u.feedback.level then u.grl.inEffect else 0 } }

theorem modOut_raise (f : EventFlag) (s : State) (o : Outlet) (g : OutletState → OutletState) :
    (raise f s).modOut o g = raise f (s.modOut o g) := by cases o <;> rfl

theorem modOut_modOut (s : State) (o : Outlet) (f g : OutletState → OutletState) :
    (s.modOut o f).modOut o g = s.modOut o fun u => g (f u) := by cases o <;> rfl

theorem tripOutlet_eq (o : Outlet) (cause : TripCause) (s : State) :
    tripOutlet o cause s = raise (tripFlag o) (raise (changeFlag o) (s.modOut o (tripsOff cause))) := by
  rw [tripOutlet, tripGrants, setSession, modOut_raise, modOut_raise, modOut_modOut, modOut_modOut]
  rfl

theorem out_tripped (im : Image) (o : Outlet) (cause : TripCause) (s : State) :
    (tripped im o cause s).out o = tripsOff cause (s.out o) := by
  have own : ((noted im (tripOutlet o cause) s)).out o = tripsOff cause (s.out o) := by
    rw [noted, out_noteUpdate, tripOutlet_eq, raise_out, raise_out, out_modOut]
  have none : ((noted im (tripOutlet o cause) s).out o).grl.pending = none := by
    rw [own]; exact sendWord_pending _
  rw [tripped, out_settleRises, out_releaseRises_of_none none, own]

/-- The outlet after a trip and its computation. -/
def trippedOff (cause : TripCause) (u : OutletState) : OutletState :=
  { tripsOff cause u with
    grl :=
      sendWord
        { u.grl with
          target := 0, commanded := 0, pending := none, unconfirmed := false, confirmTimer := none, parkHold := .stopped
          inEffect := if u.feedback.level then u.grl.inEffect else 0 }
    share := ⟨0, 0, 0, none⟩ }

theorem shareless_tripsOff (cause : TripCause) (u : OutletState) : shareless (tripsOff cause u) = trippedOff cause u := by
  unfold shareless tripsOff trippedOff sendWord
  dsimp only
  split <;> rfl

theorem flagSet_tripOutlet (o : Outlet) (cause : TripCause) (s : State) :
    (tripOutlet o cause s).flagSet (tripFlag o) = true ∧ (tripOutlet o cause s).flagSet (changeFlag o) = true := by
  rw [tripOutlet_eq]
  exact ⟨flagSet_raise_same .., (flagsKept_raise (tripFlag o) _).flagSet (flagSet_raise_same ..)⟩

theorem flagsKept_tripped (im : Image) (o : Outlet) (cause : TripCause) (s : State) :
    FlagsKept (tripOutlet o cause s) (tripped im o cause s) :=
  (((shared_noteUpdate im _ _).eventAt o).trans ((eventAt_releaseRises im o _).trans (eventAt_settleRises o _))).2.2.2

section
variable {im : Image} {o : Outlet} (fits : fitted im o = true) (cause : TripCause) {before s : State}
include fits

/-- A trip with the computation it triggers (R46, R86, R108). -/
theorem tripped_outletEvent (can : trippable (s.out o).osc = true) (same : sessions s = sessions before) :
    Tripped o cause s (outletEvent im before (trip im o cause s)) := by
  have trips : trip im o cause s = tripped im o cause s := by rw [trip_eq, fits, can]; rfl
  have out := out_tripped im o cause s
  have state : ((tripped im o cause s).out o).osc.state = .tripped := by rw [out]; rfl
  have changed : sessions (tripped im o cause s) ≠ sessions before := fun h => by
    have kept : ((tripped im o cause s).out o).osc.state = (s.out o).osc.state := by
      rw [← same] at h
      cases o with
      | a => exact congrArg Prod.fst h
      | b => exact congrArg Prod.snd h
    rw [state] at kept
    rw [trippable, ← kept] at can
    nomatch can
  have ends : outletEvent im before (tripped im o cause s) = triggered im before (tripped im o cause s) := if_neg changed
  have event := (eventAt_trip im o cause s).trans (eventAt_outletEvent im o before _)
  rw [trips, ends] at *
  have kept := (flagsKept_tripped im o cause s).trans (shared_triggered im before _).2.2.2
  obtain ⟨trip, change⟩ := flagSet_tripOutlet o cause s
  refine ⟨event, kept.flagSet trip, kept.flagSet change, ?_⟩
  rw [triggered, out_computation_of_claimless fits, out_noteUpdate, out, shareless_tripsOff]
  · rfl
  · rw [out_noteUpdate, Claimless, state]
    exact ⟨nofun, nofun⟩

/-- In any other state a cause changes nothing (R107). -/
theorem outletEvent_trip_idle (cannot : ¬trippable (s.out o).osc = true) (quiet : Quiet before s) (same : sessions s = sessions before) :
    outletEvent im before (trip im o cause s) = s := by
  rw [trip_eq, fits, Bool.true_and, if_neg cannot, outletEvent_same im before s same (quiet.2 im)]

end

/-- A timer that expires is one that the trip stops. -/
theorem Tripped.of_own {o : Outlet} {cause : TripCause} {s t : State} {f : OutletState → OutletState}
    (h : Tripped o cause (s.modOut o f) t) (stops : trippedOff cause (f (s.out o)) = trippedOff cause (s.out o)) : Tripped o cause s t := by
  obtain ⟨event, trip, change, out⟩ := h
  refine ⟨(eventAt_own o f s).trans event, trip, change, out.trans ?_⟩
  rw [out_modOut]
  exact stops

/-- The expiry of a timer that a trip stops, as a cause of one (R107). -/
theorem timer_trips {im : Image} {o : Outlet} (fits : fitted im o = true) {cause : TripCause} {c : Instr} {s : State}
    {f : OutletState → OutletState} (e : exec c s = .next (tripEvent im o cause (s.modOut o f)))
    (state : trippable (f (s.out o)).osc = trippable (s.out o).osc)
    (stops : trippedOff cause (f (s.out o)) = trippedOff cause (s.out o)) :
    (trippable (s.out o).osc = true → ∃ t, exec c s = .next t ∧ Tripped o cause s t) ∧
      (¬trippable (s.out o).osc = true → exec c s = .next (s.modOut o f)) := by
  rw [← state, ← out_modOut s o f]
  refine ⟨fun can => ⟨_, e, (tripped_outletEvent fits cause can rfl).of_own stops⟩, fun cannot => e.trans ?_⟩
  rw [tripEvent, outletEvent_trip_idle fits cause cannot (.refl _) rfl]

section
variable {im : Image} {s : State} {o : Outlet} (r : s.configured = .running im) (fits : fitted im o = true)
include r fits

theorem exec_faultAsserted (low : (s.out o).fault.level = false) :
    exec (.faultAsserted o) s =
      .next (outletEvent im s (trip im o .moduleFault (s.modOut o fun u => { u with fault := ⟨true, true, 0⟩ }))) := by
  rw [exec, execFaultAsserted, whenFitted_running r fits, if_neg (Bool.eq_false_iff.mp low)]
  rfl

theorem exec_mismatchTimerExpiry (runs : (s.out o).osc.mismatchTimer.isSome = true) :
    exec (.mismatchTimerExpiry o) s = .next (tripEvent im o .contactor (s.modOut o fun u => { u with osc.mismatchTimer := none })) := by
  rw [exec, execMismatchTimerExpiry, whenFitted_running r fits, if_pos runs]

theorem exec_startTimerExpiry (runs : (s.out o).osc.startTimer.isSome = true) :
    exec (.startTimerExpiry o) s = .next (tripEvent im o .startTimeout (s.modOut o fun u => { u with osc.startTimer := none })) := by
  rw [exec, execStartTimerExpiry, whenFitted_running r fits, if_pos runs]

theorem exec_confirmTimeout (runs : (s.out o).grl.confirmTimer.isSome = true) :
    exec (.confirmTimeout o) s = .next (tripEvent im o .confirmTimeout (s.modOut o fun u => { u with grl.confirmTimer := none })) := by
  rw [exec, execConfirmTimeout, whenFitted_running r fits, if_pos runs]

end

/-- Settles O31: FAULT as an event of its own, and the three timers by `timer_trips`. -/
theorem eachCauseTripsATrippableOutlet : Obligations.EachCauseTripsATrippableOutlet := by
  intro im s o r fits st phase can
  rw [show can = (trippable (s.out o).osc = true) from propext trippable_iff.symm]
  refine ⟨fun low => ?_, fun runs => timer_trips fits (exec_mismatchTimerExpiry r fits runs) rfl rfl,
    fun runs => timer_trips fits (exec_startTimerExpiry r fits runs) rfl rfl,
    fun runs => timer_trips fits (exec_confirmTimeout r fits runs) rfl rfl⟩
  intro u
  have e := exec_faultAsserted r fits low
  have state : (u.out o).osc = (s.out o).osc := by rw [out_modOut]
  have same : sessions u = sessions s := sessions_modOut rfl
  rw [← state]
  exact ⟨fun can => ⟨_, e, tripped_outletEvent fits .moduleFault can same⟩,
    fun cannot => e.trans (congrArg _ (outletEvent_trip_idle fits .moduleFault cannot (quiet_modOut s o _ rfl) same))⟩

end Sys2Proof.Machine
end

section
/-! PROOF. The completion of a close by FEEDBACK or the close timer, and the other effects of FEEDBACK recognised open (R87, R97, R114 to
R117). -/

namespace Sys2Proof.Machine

section
variable {im : Image} {o : Outlet} (fits : fitted im o = true) (before : State) {x : State}
include fits

/-- A completed close with the computation that its change of session triggers (R46, R116). -/
theorem closeCompleted_triggered {w : State} (h : Shared (completeClose o x) w) (own : w.out o = (completeClose o x).out o) :
    CloseCompleted o (buildRecord o (x.out o)) x (triggered im before w) := by
  refine closeCompleted_of_shared (h.trans (shared_triggered im before w)) ?_
  have kept := (out_noteUpdate im (announced im before) w o).trans own
  rw [triggered, out_computation_of_claimless fits, kept]
  rw [kept]
  exact claimless_completeClose o x

/-- A close that completes is an event of its own (R114). -/
theorem closeCompleted_event (closing : (x.out o).osc.state = .closing) (same : sessions x = sessions before) :
    CloseCompleted o (buildRecord o (x.out o)) x (outletEvent im before (completeClose o x)) := by
  have changed : sessions (completeClose o x) ≠ sessions before := fun h => by
    have state : ((completeClose o x).out o).osc.state = (x.out o).osc.state := by
      rw [← same] at h
      cases o with
      | a => exact congrArg Prod.fst h
      | b => exact congrArg Prod.snd h
    rw [out_completeClose_state, closing] at state
    split at state <;> nomatch state
  rw [outletEvent, if_neg changed]
  exact closeCompleted_triggered fits before (.refl _) rfl

end

section
variable {im : Image} {s : State} {o : Outlet} (r : s.configured = .running im) (fits : fitted im o = true)
include r fits

theorem exec_feedbackOpen (closed : (s.out o).feedback.level = true) :
    exec (.feedbackOpen o) s =
      .next (outletEvent im s (feedbackOpened im o (s.modOut o fun u => { u with feedback := ⟨false, false, 0⟩ }))) := by
  rw [exec, execFeedbackOpen, whenFitted_running r fits, if_pos closed]
  rfl

theorem exec_closeTimerExpiry (runs : (s.out o).osc.closeTimer.isSome = true) (waits : inOpenWait (s.out o).osc = true) :
    exec (.closeTimerExpiry o) s =
      .next (outletEvent im s (completeClose o (s.modOut o fun u => { u with osc.forcedOpen := true }))) := by
  rw [exec, execCloseTimerExpiry, whenFitted_running r fits, if_pos ⟨runs, waits⟩]

end

-- What FEEDBACK recognised open does, by the state of its outlet.

section
variable {im : Image} {o : Outlet} {x : State}

theorem feedbackOpened_openWait (waits : inOpenWait (x.out o).osc = true) : feedbackOpened im o x = completeClose o x := if_pos waits

theorem feedbackOpened_tripped (tripped : (x.out o).osc.state = .tripped) :
    feedbackOpened im o x = x.modOut o fun u => { u with grl.inEffect := 0 } := by
  rw [feedbackOpened, if_neg, if_pos tripped]
  rw [inOpenWait_iff, tripped]
  nofun

variable (not_waits : ¬inOpenWait (x.out o).osc = true) (not_tripped : (x.out o).osc.state ≠ .tripped)
include not_waits not_tripped

theorem feedbackOpened_driven (drive : (x.out o).osc.driveClosed = true) :
    feedbackOpened im o x = x.modOut o fun u => { u with osc.mismatchTimer := x.timerIn im.feedbackTime } := by
  rw [feedbackOpened, if_neg not_waits, if_neg not_tripped, if_pos drive]

theorem feedbackOpened_undriven (drive : (x.out o).osc.driveClosed = false) : feedbackOpened im o x = x := by
  rw [feedbackOpened, if_neg not_waits, if_neg not_tripped, if_neg (Bool.eq_false_iff.mp drive)]

end

/-- An event at an outlet that neither its session nor the announced values see. -/
theorem outletEvent_quiet {im : Image} {s t : State} (quiet : Quiet s t) (same : sessions t = sessions s) : outletEvent im s t = t :=
  outletEvent_same im s t same (quiet.2 im)

/-- Settles O34: a close completes by `closeCompleted_event`, and the other effects change no session. -/
theorem feedbackOpenCompletesTheClose : Obligations.FeedbackOpenCompletesTheClose := by
  intro im s o r fits u v st openWait
  have opened : (u.out o).osc = (s.out o).osc := by rw [out_modOut]
  have forced : (v.out o).osc.state = (s.out o).osc.state := by rw [out_modOut]
  have sessionsU : sessions u = sessions s := sessions_modOut rfl
  have quiet : Quiet s u := quiet_modOut s o _ rfl
  refine ⟨fun closed => ?_, fun waits runs => ?_⟩
  · have e := exec_feedbackOpen r fits closed
    change _ = Host.Outcome.next (outletEvent im s (feedbackOpened im o u)) at e
    refine ⟨fun waits => ?_, fun tripped => ?_, fun not_waits not_tripped drive => ?_, fun not_waits not_tripped drive => ?_⟩
    · rw [feedbackOpened_openWait (opened ▸ inOpenWait_iff.mpr waits)] at e
      exact ⟨_, e, closeCompleted_event fits s (opened ▸ waits.1) sessionsU⟩
    · rw [feedbackOpened_tripped (opened ▸ tripped), outletEvent_of_sessions ((sessions_modOut rfl).trans sessionsU)] at e
      exact ⟨_, e, butSlot_noteUpdate im _ _⟩
    · rw [feedbackOpened_driven (opened ▸ mt inOpenWait_iff.mp not_waits) (opened ▸ not_tripped) (opened ▸ drive),
        outletEvent_quiet (quiet.trans (quiet_modOut u o _ rfl)) ((sessions_modOut rfl).trans sessionsU), State.timerIn, modOut_now] at e
      exact e
    · rw [feedbackOpened_undriven (opened ▸ mt inOpenWait_iff.mp not_waits) (opened ▸ not_tripped) (opened ▸ drive),
        outletEvent_quiet quiet sessionsU] at e
      exact e
  · have e := exec_closeTimerExpiry r fits runs (inOpenWait_iff.mpr waits)
    exact ⟨_, e, closeCompleted_event fits s (forced.trans waits.1) (sessions_modOut rfl)⟩

end Sys2Proof.Machine
end

section
/-! PROOF. CLOSE SESSION (R112, R113, R193): its refusals, and the close it begins, outlet by outlet. -/

namespace Sys2Proof.Machine

theorem out_setOut (s : State) (o : Outlet) (x : OutletState) : (s.setOut o x).out o = x := by cases o <;> rfl

section
variable {im : Image} {s : State} (h : Serves im s) {x : Byte}
include h

theorem exec_closeSession_unknown (unknown : outletOf x = none) :
    exec (.closeSession x) s = .next (refuse .badValue 8 (finishCaptured (.closeSession x) s)) := by
  refine congrArg Host.Outcome.next ((hostRunning_serves h _ _ _).trans ?_)
  rw [unknown]

variable {o : Outlet} (named : outletOf x = some o)
include named

theorem exec_closeSession_unfit (unfit : fitted im o = false) :
    exec (.closeSession x) s = .next (refuse .badValue 8 (finishCaptured (.closeSession x) s)) := by
  refine congrArg Host.Outcome.next ((hostRunning_serves h _ _ _).trans ?_)
  rw [named]
  exact if_pos unfit

variable (fits : fitted im o = true)
include fits

theorem exec_closeSession_wrongState (wrong : ¬closable (s.out o).osc.state = true) :
    exec (.closeSession x) s = .next (refuse .wrongState 8 (finishCaptured (.closeSession x) s)) := by
  refine congrArg Host.Outcome.next ((hostRunning_serves h _ _ _).trans ?_)
  rw [named]
  refine (if_neg (by rw [fits]; nofun)).trans (if_neg ?_)
  rw [finishCaptured_keeps]
  cases o <;> exact wrong

theorem exec_closeSession_accepted (accepts : closable (s.out o).osc.state = true) :
    exec (.closeSession x) s =
      .next (respond .ok 8 [] (triggered im (finishCaptured (.closeSession x) s)
        (acceptClose im o (finishCaptured (.closeSession x) s)))) := by
  refine congrArg Host.Outcome.next ((hostRunning_serves h _ _ _).trans ?_)
  rw [named]
  refine (if_neg (by rw [fits]; nofun)).trans (if_pos ?_)
  rw [finishCaptured_keeps]
  cases o <;> exact accepts

end

theorem closable_iff {x : Session} : closable x = true ↔ x ∉ [.idle, .closing, .settleWait] := by
  cases x <;> simp [closable]

-- The outlet as its close begins.

/-- The outlet in CLOSING, with the origin of its close (R112). -/
def closingOutlet (u : OutletState) : OutletState :=
  { u with
    osc := { u.osc with
      state := .closing, closeOrigin := if u.osc.state = .starting then .starting else .other, startTimer := none } }

/-- The outlet with its setpoint and its pending rise withdrawn (R81, R84). -/
def withdrawnOutlet (im : Image) (now : Nat) (u : OutletState) : OutletState :=
  { loweredToNone im now u with grl := { (loweredToNone im now u).grl with pending := none, parkHold := .stopped } }

/-- The outlet in OUTPUT WAIT (R112, R113). -/
def outputWaiting (im : Image) (now : Nat) (u : OutletState) : OutletState :=
  withdrawnOutlet im now { closingOutlet u with osc := { (closingOutlet u).osc with closePhase := some .outputWait } }

theorem loweredToZero_eq (im : Image) (o : Outlet) (s : State) : loweredToZero im o s = s.modOut o (loweredToNone im s.now) := by
  rw [loweredToZero, State.modOut, loweredToNone]
  split
  · rfl
  · exact (setOut_self s o).symm

theorem withdraw_eq_modOut (im : Image) (o : Outlet) (s : State) :
    withdraw im o s = settleRises (s.modOut o (withdrawnOutlet im s.now)) := by
  rw [withdraw_eq, loweredToZero_eq, modOut_modOut]
  rfl

theorem setSession_closing (o : Outlet) (s : State) :
    setSession o .closing
        (s.modOut o fun u =>
          { u with osc.closeOrigin := if (s.out o).osc.state = .starting then .starting else .other, osc.startTimer := none }) =
      raise (changeFlag o) (s.modOut o closingOutlet) := by
  rw [setSession, modOut_modOut]
  rfl

theorem acceptClose_tripped {im : Image} {o : Outlet} {s : State} (tripped : (s.out o).osc.state = .tripped) :
    acceptClose im o s = beginOpenWait im o (raise (changeFlag o) (s.modOut o closingOutlet)) := by
  rw [acceptClose, if_pos tripped, setSession_closing]

/-- The state of an outlet in OUTPUT WAIT, before the output is looked at. -/
def outputWaits (im : Image) (o : Outlet) (s : State) : State :=
  settleRises (raise (changeFlag o) (s.modOut o (outputWaiting im s.now)))

theorem acceptClose_waiting {im : Image} {o : Outlet} {s : State} (other : (s.out o).osc.state ≠ .tripped) :
    acceptClose im o s = reportOutput im o (outputWaits im o s) := by
  rw [acceptClose, if_neg other, setSession_closing, modOut_raise, modOut_modOut, withdraw_eq_modOut, modOut_raise, modOut_modOut,
    raise_now, modOut_now]
  rfl

theorem loweredToNone_zero {im : Image} {now : Nat} {u : OutletState} (zero : u.grl.commanded = 0) : loweredToNone im now u = u :=
  if_neg (by omega)

theorem loweredToNone_above {im : Image} {now : Nat} {u : OutletState} (above : 0 < u.grl.commanded) :
    loweredToNone im now u = loweredTo im now 0 u := if_pos above

theorem outputWaiting_zero {im : Image} {now : Nat} {u : OutletState} (zero : u.grl.commanded = 0) :
    outputWaiting im now u =
      { closingOutlet u with
        osc := { (closingOutlet u).osc with closePhase := some .outputWait }
        grl := { u.grl with pending := none, parkHold := .stopped } } := by
  rw [outputWaiting, withdrawnOutlet, loweredToNone_zero]
  · rfl
  · exact zero

theorem outputWaiting_above {im : Image} {now : Nat} {u : OutletState} (above : 0 < u.grl.commanded) :
    outputWaiting im now u =
      { closingOutlet u with
        osc := { (closingOutlet u).osc with closePhase := some .outputWait }
        grl := { (loweredTo im now 0 u).grl with pending := none, parkHold := .stopped }
        mtf := { u.mtf with overDraw := 0 } } := by
  rw [outputWaiting, withdrawnOutlet, loweredToNone_above]
  · rfl
  · exact above

theorem outputWaiting_keeps (im : Image) (now : Nat) (u : OutletState) :
    (outputWaiting im now u).osc = { (closingOutlet u).osc with closePhase := some .outputWait } ∧
      (outputWaiting im now u).feedback = u.feedback := by
  rcases Nat.eq_zero_or_pos u.grl.commanded with zero | above
  · rw [outputWaiting_zero zero]; exact ⟨rfl, rfl⟩
  · rw [outputWaiting_above above]; exact ⟨rfl, rfl⟩

/-- The output of an outlet that begins to wait is down where nothing had to be lowered (R85, R113). -/
theorem outputDown_outputWaiting {im : Image} {now : Nat} {u : OutletState} :
    outputDown (outputWaiting im now u) = true ↔ u.grl.commanded = 0 ∧ u.grl.unconfirmed = false := by
  rcases Nat.eq_zero_or_pos u.grl.commanded with zero | above
  · simp [outputDown_iff, outputWaiting_zero zero, closingOutlet, zero]
  · simp [outputDown_iff, outputWaiting_above above, loweredTo, above.ne']

/-- A word is sent whatever rise is pending (R71). -/
theorem sendWord_withPending (g : Grl) (p : Option Nat) : sendWord { g with pending := p } = { sendWord g with pending := p } := by
  cases g with
  | mk _ _ _ _ _ _ _ _ _ w _ _ _ => cases w <;> rfl

theorem grl_loweredTo (im : Image) (now n : Nat) (u : OutletState) :
    (loweredTo im now n u).grl =
      { sendWord { u.grl with commanded := n, unconfirmed := true, confirmTimer := some (now + im.confirmTimeout) } with
        pending := none } :=
  sendWord_withPending { u.grl with commanded := n, unconfirmed := true, confirmTimer := some (now + im.confirmTimeout) } none

/-- The outlet in OUTPUT WAIT after the computation (R112). -/
theorem shareless_outputWaiting (im : Image) (now : Nat) (u : OutletState) :
    shareless (outputWaiting im now u) =
      { u with
        osc := { (closingOutlet u).osc with closePhase := some .outputWait }
        mtf := { u.mtf with overDraw := if 0 < u.grl.commanded then 0 else u.mtf.overDraw }
        grl := withdrawnGrants im now u.grl
        share := ⟨0, 0, 0, none⟩ } := by
  rcases Nat.eq_zero_or_pos u.grl.commanded with zero | above
  · have not_above : ¬0 < u.grl.commanded := by omega
    rw [outputWaiting_zero zero, withdrawnGrants, if_neg not_above, if_neg not_above]
    rfl
  · rw [outputWaiting_above above, withdrawnGrants, if_pos above, if_pos above, grl_loweredTo]
    rfl

/-- The outlet in OPEN WAIT after the computation (R112, R113). -/
def openedOutlet (im : Image) (now : Nat) (u : OutletState) : OutletState :=
  { u with
    osc :=
      { u.osc with
        state := .closing, closeOrigin := if u.osc.state = .starting then .starting else .other
        closePhase := some .openWait, driveClosed := false
        startTimer := none, mismatchTimer := none, closeTimer := some (now + im.confirmTimeout) }
    grl :=
      { u.grl with
        target := 0, pending := none
        parkHold := if u.osc.state = .tripped then u.grl.parkHold else .stopped }
    share := ⟨0, 0, 0, none⟩ }

/-- A close of `s` that finds the output down begins OPEN WAIT from `z` (R112, R113). -/
structure OpensFrom (im : Image) (o : Outlet) (s z : State) : Prop where
  event : EventAt o s z
  change : z.flagSet (changeFlag o) = true
  now : z.now = s.now
  feedback : (z.out o).feedback = (s.out o).feedback
  state : (z.out o).osc.state = .closing
  opened : shareless (waitsOpen im s.now (z.out o)) = openedOutlet im s.now (s.out o)
  accepts : ButSlot (beginOpenWait im o z) (acceptClose im o s)

theorem opensFrom_tripped (im : Image) {o : Outlet} {s : State} (tripped : (s.out o).osc.state = .tripped) :
    OpensFrom im o s (raise (changeFlag o) (s.modOut o closingOutlet)) := by
  have own : (raise (changeFlag o) (s.modOut o closingOutlet)).out o = closingOutlet (s.out o) := by rw [raise_out, out_modOut]
  refine ⟨(eventAt_own o _ s).trans (eventAt_raise o _ _), flagSet_raise_same .., modOut_now .., ?_, ?_, ?_, ?_⟩
  · rw [own]; rfl
  · rw [own]; rfl
  · rw [own, openedOutlet, if_pos tripped]; rfl
  · rw [acceptClose_tripped tripped]; exact .refl _

theorem out_outputWaits (im : Image) (o : Outlet) (s : State) : (outputWaits im o s).out o = outputWaiting im s.now (s.out o) := by
  rw [outputWaits, out_settleRises, raise_out, out_modOut]

theorem eventAt_outputWaits (im : Image) (o : Outlet) (s : State) :
    EventAt o s (outputWaits im o s) ∧ (outputWaits im o s).flagSet (changeFlag o) = true := by
  have settles := eventAt_settleRises o (raise (changeFlag o) (s.modOut o (outputWaiting im s.now)))
  exact ⟨((eventAt_own o _ s).trans (eventAt_raise o _ _)).trans settles, settles.2.2.2.flagSet (flagSet_raise_same ..)⟩

theorem opensFrom_outputWaits (im : Image) {o : Outlet} {s : State} (other : (s.out o).osc.state ≠ .tripped)
    (zero : (s.out o).grl.commanded = 0) (confirmed : (s.out o).grl.unconfirmed = false) : OpensFrom im o s (outputWaits im o s) := by
  obtain ⟨event, change⟩ := eventAt_outputWaits im o s
  obtain ⟨osc, feedback⟩ := outputWaiting_keeps im s.now (s.out o)
  have own := out_outputWaits im o s
  refine ⟨event, change, by rw [event.1], own ▸ feedback, by rw [own, osc]; rfl, ?_, ?_⟩
  · rw [own, outputWaiting_zero zero, openedOutlet, if_neg other]; rfl
  · rw [acceptClose_waiting other, reportOutput_down (by rw [own]; exact outputDown_outputWaiting.mpr ⟨zero, confirmed⟩)]
    exact butSlot_noteUpdate im _ _

-- The close with the computation that it triggers (R46).

theorem EventAt.with_settlement {o : Outlet} {s t : State} (h : EventAt o s t) (x : Stu) (xs : List Outlet) :
    EventAt o { s with stu := x, grl.order := xs } { t with stu := x, grl.order := xs } := by
  obtain ⟨keeps, other, parks, flags⟩ := h
  refine ⟨?_, ?_, ?_, flags⟩
  · conv_lhs => rw [keeps]
  · cases o <;> exact other
  · cases o <;> exact parks

/-- A completed close leaves nothing of the share, the target, the pending rise and the park hold it found. -/
theorem CloseCompleted.of_shareless {o : Outlet} {s q t : State} {x : OutletState} (event : EventAt o s q)
    (own : shareless (q.out o) = x) (h : CloseCompleted o (buildRecord o (q.out o)) q t) :
    CloseCompleted o (buildRecord o x) (s.setOut o x) t := by
  subst own
  have stu : q.stu = s.stu := by rw [event.1]
  have order : q.grl.order = s.grl.order := by rw [event.1]
  have replaced : EventAt o (s.setOut o (shareless (q.out o))) q := by
    refine .trans ?_ event
    have back := eventAt_own o (fun _ => s.out o) (s.setOut o (shareless (q.out o)))
    rwa [show (s.setOut o (shareless (q.out o))).modOut o (fun _ => s.out o) = s by cases o <;> rfl] at back
  obtain ⟨completes, change, ready, full, out⟩ := h
  rw [stu] at completes ready full out
  rw [order] at completes
  refine ⟨.trans ?_ completes, change, ?_, ?_, ?_⟩
  · rw [setOut_stu, setOut_grl]
    exact replaced.with_settlement _ _
  · rw [setOut_stu]; exact ready
  · rw [setOut_stu]; exact full
  · rw [setOut_stu, out_setOut, out]
    rfl

theorem out_triggered_of_claimless {im : Image} {o : Outlet} (fits : fitted im o = true) (before : State) {s : State}
    (h : Claimless (s.out o)) : (triggered im before s).out o = shareless (s.out o) := by
  rw [triggered, out_computation_of_claimless fits (by rw [out_noteUpdate]; exact h), out_noteUpdate]

theorem claimless_of_closing {u : OutletState} (h : u.osc.state = .closing) : Claimless u := by
  rw [Claimless, h]; exact ⟨nofun, nofun⟩

section
variable {im : Image} {o : Outlet} (fits : fitted im o = true) (before : State) {s : State}
include fits

/-- The close waits for the output (R112, R113). -/
theorem acceptClose_waits (other : (s.out o).osc.state ≠ .tripped)
    (up : ¬((s.out o).grl.commanded = 0 ∧ (s.out o).grl.unconfirmed = false)) :
    EventAt o s (triggered im before (acceptClose im o s)) ∧
      (triggered im before (acceptClose im o s)).flagSet (changeFlag o) = true ∧
      (triggered im before (acceptClose im o s)).out o = shareless (outputWaiting im s.now (s.out o)) := by
  obtain ⟨event, change⟩ := eventAt_outputWaits im o s
  have own := out_outputWaits im o s
  have closing : ((outputWaits im o s).out o).osc.state = .closing := by rw [own, (outputWaiting_keeps ..).1]; rfl
  have shared := shared_triggered im before (outputWaits im o s)
  rw [acceptClose_waiting other, reportOutput_up (by rw [own, outputDown_outputWaiting]; exact up)]
  exact ⟨event.trans (shared.eventAt o), shared.2.2.2.flagSet change,
    by rw [out_triggered_of_claimless fits before (claimless_of_closing closing), own]⟩

variable {z : State} (h : OpensFrom im o s z)
include h

/-- The close opens the contactor and waits for it (R113). -/
theorem OpensFrom.closed (closed : (s.out o).feedback.level = true) :
    EventAt o s (triggered im before (acceptClose im o s)) ∧
      (triggered im before (acceptClose im o s)).flagSet (changeFlag o) = true ∧
      (triggered im before (acceptClose im o s)).out o = openedOutlet im s.now (s.out o) := by
  have shared := shared_triggered im before (acceptClose im o s)
  have but := h.accepts
  rw [beginOpenWait_closed (h.feedback ▸ closed), h.now] at but
  have opens : EventAt o z (acceptClose im o s) := (eventAt_own o (waitsOpen im s.now) z).trans (by rw [but]; cases o <;> exact ⟨rfl, rfl, .refl _, .refl _⟩)
  have own : (acceptClose im o s).out o = waitsOpen im s.now (z.out o) := (but.out o).trans (out_modOut ..)
  refine ⟨(h.event.trans opens).trans (shared.eventAt o), (opens.trans (shared.eventAt o)).2.2.2.flagSet h.change, ?_⟩
  rw [out_triggered_of_claimless fits before, own, h.opened]
  rw [own]
  exact claimless_of_closing h.state

/-- The close finds the contactor open and completes at once (R113, R114). -/
theorem OpensFrom.open_ (opened : (s.out o).feedback.level = false) :
    CloseCompleted o (buildRecord o (openedOutlet im s.now (s.out o))) (s.setOut o (openedOutlet im s.now (s.out o)))
      (triggered im before (acceptClose im o s)) := by
  have but := h.accepts
  rw [beginOpenWait_open (h.feedback ▸ opened), h.now] at but
  have shared : Shared (completeClose o (z.modOut o (waitsOpen im s.now))) (acceptClose im o s) := by
    rw [but]; exact ⟨rfl, .refl _, .refl _, .refl _⟩
  refine (closeCompleted_triggered fits before shared (but.out o)).of_shareless (h.event.trans (eventAt_own o _ z)) ?_
  rw [out_modOut, h.opened]

end

-- The answer that the command holds (R181, R182).

theorem EventAt.answered {o : Outlet} {s t : State} (h : EventAt o s t) (x : Response) :
    EventAt o { s with hpt.held := x } { t with hpt.held := x } := by
  obtain ⟨keeps, other, parks, flags⟩ := h
  refine ⟨?_, ?_, ?_, flags⟩
  · conv_lhs => rw [keeps]
  · cases o <;> exact other
  · cases o <;> exact parks

theorem CloseCompleted.answered {o : Outlet} {r : Record} {s t : State} (h : CloseCompleted o r s t) (x : Response) :
    CloseCompleted o r { s with hpt.held := x } { t with hpt.held := x } := by
  obtain ⟨event, change, ready, full, out⟩ := h
  exact ⟨event.answered x, change, ready, full, by cases o <;> exact out⟩

/-- Settles O29: the refusals one by one, and the three ways a close begins by `acceptClose_waits` and `OpensFrom`. -/
theorem closeSessionBeginsTheClose : Obligations.CloseSessionBeginsTheClose := by
  intro im s x serves c u v
  have own : ∀ o, u.out o = s.out o := fun o => by
    rw [show u = _ from finishCaptured_keeps c s]; cases o <;> rfl
  have now : u.now = s.now := by rw [show u = _ from finishCaptured_keeps c s]
  refine ⟨fun unknown => exec_closeSession_unknown serves (outletOf_eq_none unknown), fun o named => ?_⟩
  intro st origin waits opened
  refine ⟨fun unfit => exec_closeSession_unfit serves named unfit, fun fits => ⟨fun wrong => ?_, fun accepts => ?_⟩⟩
  · exact exec_closeSession_wrongState serves named fits fun accepts => closable_iff.mp accepts wrong
  · have e := exec_closeSession_accepted serves named fits (closable_iff.mpr accepts)
    have opens : ¬waits → ∃ z, OpensFrom im o u z := fun down => by
      by_cases tripped : (u.out o).osc.state = .tripped
      · exact ⟨_, opensFrom_tripped im tripped⟩
      · have zero : (u.out o).grl.commanded = 0 ∧ (u.out o).grl.unconfirmed = false := by
          rw [own] at tripped ⊢
          simpa [waits, st, tripped] using down
        exact ⟨_, opensFrom_outputWaits im tripped zero.1 zero.2⟩
    refine ⟨_, e, fun up => ?_, fun down closed => ?_, fun down open_ => ?_⟩
    · have waited := acceptClose_waits fits u (s := u) (by rw [own]; exact up.1) fun down => by
        rw [own] at down
        rcases up.2 with above | unconfirmed
        · exact above down.1
        · exact absurd (down.2.symm.trans unconfirmed) nofun
      rw [shareless_outputWaiting, now, own] at waited
      exact ⟨waited.1.answered _, waited.2.1, (respond_out ..).trans waited.2.2⟩
    · obtain ⟨z, z_opens⟩ := opens down
      have opened := z_opens.closed fits u (by rw [own]; exact closed)
      rw [now, own] at opened
      exact ⟨opened.1.answered _, opened.2.1, (respond_out ..).trans opened.2.2⟩
    · obtain ⟨z, z_opens⟩ := opens down
      have completed := (z_opens.open_ fits u (by rw [own]; exact open_)).answered ⟨.ok, 8, []⟩
      rw [now, own] at completed
      cases o <;> exact completed

end Sys2Proof.Machine
end

section
/-! PROOF. A rise evaluation (R76 to R79): what each outlet of the opening order gets, and that nothing else changes. -/

namespace Sys2Proof.Machine

-- One outlet's rise (R78 steps 4 to 6).

/-- The rise of an outlet within the allowance left (R78 step 5). -/
def riseOf (im : Image) (u : OutletState) (left : Nat) : Nat :=
  match u.grl.pending with
  | some p => min im.riseStep (min (p - u.grl.commanded) left)
  | none => 0

theorem riseOf_none {im : Image} {u : OutletState} (h : u.grl.pending = none) (left : Nat) : riseOf im u left = 0 := by
  unfold riseOf; rw [h]

theorem riseOf_some {im : Image} {u : OutletState} {p : Nat} (h : u.grl.pending = some p) (left : Nat) :
    riseOf im u left = min im.riseStep (min (p - u.grl.commanded) left) := by
  unfold riseOf; rw [h]

/-- The outlet raised by a step (R78 step 6). -/
def raisedBy (n : Nat) (u : OutletState) : OutletState :=
  { u with
    grl := sendWord
      { u.grl with
        commanded := u.grl.commanded + n, inEffect := u.grl.inEffect + n, peak := max u.grl.peak (u.grl.inEffect + n),
        pending := if u.grl.pending = some (u.grl.commanded + n) then none else u.grl.pending } }

/-- The outlet after its turn in a rise evaluation. -/
def served (im : Image) (left : Nat) (u : OutletState) : OutletState :=
  if 1 ≤ riseOf im u left then raisedBy (riseOf im u left) u else u

theorem served_keeps (im : Image) (left : Nat) (u : OutletState) : served im left u = { u with grl := (served im left u).grl } := by
  unfold served; split <;> rfl

theorem serveRises_cons (im : Image) (o : Outlet) (os : List Outlet) (left : Nat) (s : State) :
    serveRises im (o :: os) left s = serveRises im os (left - riseOf im (s.out o) left) (s.modOut o (served im left)) := by
  have turn : s.modOut o (served im left) =
      if 1 ≤ riseOf im (s.out o) left then raiseBy o (riseOf im (s.out o) left) s else s := by
    split
    · exact modOut_congr (if_pos ‹_›)
    · rw [State.modOut, served, if_neg ‹_›, setOut_self]
  rw [turn, serveRises]
  cases pending : (s.out o).grl.pending with
  | none => simp [riseOf_none pending]
  | some p =>
    simp only [riseOf_some pending]
    split
    · rfl
    · rename_i none
      rw [Nat.eq_zero_of_not_pos none, Nat.sub_zero]

theorem sendWord_sends (g : Grl) : (sendWord g).word.isSome = true := by
  unfold sendWord
  split
  · rename_i sent; exact Option.isSome_iff_exists.mpr ⟨_, sent⟩
  · rfl

/-- What an outlet's turn in a rise evaluation makes of its grants, where it is raised by `n`. -/
structure RaisedBy (n : Nat) (g h : Grl) : Prop where
  commanded : h.commanded = g.commanded + n
  inEffect : h.inEffect = g.inEffect + n
  unconfirmed : h.unconfirmed = g.unconfirmed
  confirmTimer : h.confirmTimer = g.confirmTimer
  pending : h.pending = if g.pending = some h.commanded then none else g.pending
  word : 1 ≤ n → h.word.isSome = true ∧ h.peak = max g.peak h.inEffect
  unraised : n = 0 → h = g

theorem RaisedBy.none {g : Grl} (rises : ∀ p, g.pending = some p → g.commanded < p) : RaisedBy 0 g g := by
  have above : g.pending ≠ some g.commanded := fun all => Nat.lt_irrefl _ (rises _ all)
  exact ⟨rfl, rfl, rfl, rfl, (if_neg above).symm, nofun, fun _ => rfl⟩

theorem served_raised (im : Image) (left : Nat) {u : OutletState} (rises : ∀ p, u.grl.pending = some p → u.grl.commanded < p) :
    RaisedBy (riseOf im u left) u.grl (served im left u).grl := by
  unfold served
  split
  · have some : riseOf im u left ≠ 0 := Nat.one_le_iff_ne_zero.mp ‹_›
    refine ⟨?_, ?_, ?_, ?_, ?_, fun _ => ⟨sendWord_sends _, ?_⟩, fun none => absurd none some⟩ <;> simp [raisedBy]
  · rename_i none
    rw [Nat.eq_zero_of_not_pos none]
    exact .none rises

-- The evaluation (R78, R79).

/-- The state with the grants of both outlets replaced. -/
def withGrants (g h : Grl) (s : State) : State :=
  { s with outA := { s.outA with grl := g }, outB := { s.outB with grl := h } }

theorem modOut_served (im : Image) (left : Nat) (o : Outlet) (s : State) :
    ∃ g h, s.modOut o (served im left) = withGrants g h s := by
  have keeps := served_keeps im left (s.out o)
  cases o
  · exact ⟨_, s.outB.grl, congrArg (s.setOut .a) keeps⟩
  · exact ⟨s.outA.grl, _, congrArg (s.setOut .b) keeps⟩

theorem serveRises_grants (im : Image) (xs : List Outlet) (left : Nat) (s : State) :
    ∃ g h, serveRises im xs left s = withGrants g h s := by
  induction xs generalizing left s with
  | nil => exact ⟨s.outA.grl, s.outB.grl, rfl⟩
  | cons o xs ih =>
    obtain ⟨g, h, first⟩ := modOut_served im left o s
    obtain ⟨g', h', rest⟩ := ih (left - riseOf im (s.out o) left) (withGrants g h s)
    exact ⟨g', h', by rw [serveRises_cons, first, rest]; rfl⟩

theorem out_evaluateRises (im : Image) (s : State) (o : Outlet) :
    (evaluateRises im s).out o = (serveRises im s.grl.order (allowance im s) s).out o := by cases o <;> rfl

/-- A rise evaluation changes the grants of the outlets, and the Grant Logic's hold and waiting flag (R79). -/
theorem evaluateRises_keeps (im : Image) (s : State) :
    let t := evaluateRises im s
    t.grl = ⟨if noPending t then none else some (s.now + im.sharePeriod), false, s.grl.order⟩ ∧
      t = { withGrants t.outA.grl t.outB.grl s with grl := t.grl } := by
  obtain ⟨g, h, rises⟩ := serveRises_grants im s.grl.order (allowance im s) s
  rw [evaluateRises, rises]
  exact ⟨rfl, rfl⟩

theorem served_unlisted (im : Image) (left : Nat) {o x : Outlet} (other : x ≠ o) (s : State) :
    (s.modOut o (served im left)).out x = s.out x := by
  cases o <;> cases x
  case a.a | b.b => exact absurd rfl other
  case a.b | b.a => rfl

theorem evaluateRises_lead {im : Image} {s : State} {x y : Outlet} (differ : x ≠ y)
    (order : s.grl.order = [x, y] ∨ s.grl.order = [x]) :
    (evaluateRises im s).out x = served im (allowance im s) (s.out x) := by
  rw [out_evaluateRises]
  rcases order with both | one
  · rw [both, serveRises_cons, serveRises_cons, serveRises, served_unlisted im _ differ, out_modOut]
  · rw [one, serveRises_cons, serveRises, out_modOut]

/-- The other outlet of the order gets what the lead outlet's rise left of the allowance; one not in the order gets none (R78). -/
theorem evaluateRises_follower {im : Image} {s : State} {x y : Outlet} (differ : x ≠ y)
    (order : s.grl.order = [x, y] ∨ s.grl.order = [x]) :
    (evaluateRises im s).out y =
      if y ∈ s.grl.order then served im (allowance im s - riseOf im (s.out x) (allowance im s)) (s.out y) else s.out y := by
  rw [out_evaluateRises]
  rcases order with both | one
  · rw [both, serveRises_cons, serveRises_cons, serveRises, out_modOut, served_unlisted im _ differ.symm, if_pos (by simp)]
  · rw [one, serveRises_cons, serveRises, served_unlisted im _ differ.symm, if_neg (by simpa using differ.symm)]

-- The expiry of the rise hold (R77).

section
variable {im : Image} {s : State} (running : s.configured = .running im) (held : s.grl.riseHold.isSome = true)
include running held

theorem exec_riseHoldExpiry_waits (waits : noneUnconfirmed s = false) :
    exec .riseHoldExpiry s = .next { s with grl.riseHold := none, grl.riseWaiting := true } :=
  congrArg Host.Outcome.next (((whenRunning_running running _).trans (if_pos held)).trans (if_neg (Bool.not_eq_true _ ▸ waits)))

theorem exec_riseHoldExpiry_rises (free : noneUnconfirmed s = true) :
    exec .riseHoldExpiry s = .next (noted im (evaluateRises im) { s with grl.riseHold := none }) :=
  congrArg Host.Outcome.next (((whenRunning_running running _).trans (if_pos held)).trans (if_pos free))

end

/-- Settles O38: the turns of the two outlets in the opening order, and the two cases of the hold's expiry. -/
theorem riseEvaluationStaysWithinTheHeadroom : Obligations.RiseEvaluationStaysWithinTheHeadroom := by
  refine ⟨fun im s x y differ order rises => ?_, fun im s running held => ⟨fun waits => ?_, fun a b => ?_⟩⟩
  · intro t total room step raised
    have rise : ∀ o left, step o left = riseOf im (s.out o) left := fun _ _ => rfl
    have raised_of : ∀ {o n}, RaisedBy n (s.out o).grl (t.out o).grl → raised o n := fun h =>
      ⟨h.commanded, h.inEffect, h.unconfirmed, h.confirmTimer, h.pending, h.word, h.unraised⟩
    obtain ⟨station, keeps⟩ := evaluateRises_keeps im s
    refine ⟨raised_of ?_, raised_of ?_, stationCommanded_evaluateRises im s, station, keeps⟩
    · rw [rise, evaluateRises_lead differ order]
      exact served_raised im _ (rises x)
    · rw [rise, rise, evaluateRises_follower differ order]
      split
      · exact served_raised im _ (rises y)
      · exact .none (rises y)
  · exact exec_riseHoldExpiry_waits running held (by rcases waits with a | b <;> simp [noneUnconfirmed, *])
  · exact ⟨_, exec_riseHoldExpiry_rises running held (by simp [noneUnconfirmed, *]), butSlot_noteUpdate im _ _⟩

end Sys2Proof.Machine
end

section
/-! SUPPORT. The setpoint under the in-effect grant (R69), and an outlet not fitted at rest (R93): what each operation of the grants, the
outlets and the share keeps of the two (`Backed`). -/

namespace Sys2Proof.Machine

/-- The setpoint is within the in-effect grant, and an outlet not fitted is at rest. -/
def Covered (im : Image) (o : Outlet) (u : OutletState) : Prop :=
  u.grl.commanded ≤ u.grl.inEffect ∧ (fitted im o = false → AtRest u)

/-- Both outlets are covered. -/
def Backed (im : Image) (s : State) : Prop := ∀ o, Covered im o (s.out o)

/-- What the relation looks at of an outlet. -/
def holdings (u : OutletState) : Session × Nat × Nat × Nat × Option Nat :=
  (u.osc.state, u.grl.target, u.grl.commanded, u.grl.inEffect, u.grl.pending)

theorem holdings_eq {u v : OutletState} :
    holdings v = holdings u ↔
      v.osc.state = u.osc.state ∧ v.grl.target = u.grl.target ∧ v.grl.commanded = u.grl.commanded ∧
        v.grl.inEffect = u.grl.inEffect ∧ v.grl.pending = u.grl.pending := by
  simp only [holdings, Prod.mk.injEq]

theorem AtRest.congr {u v : OutletState} (h : AtRest u) (same : holdings v = holdings u) : AtRest v := by
  obtain ⟨state, target, commanded, inEffect, pending⟩ := holdings_eq.mp same
  rwa [AtRest, state, target, commanded, inEffect, pending]

theorem AtRest.covered {u : OutletState} (h : AtRest u) (im : Image) (o : Outlet) : Covered im o u := by
  obtain ⟨-, -, commanded, -, -⟩ := id h
  exact ⟨commanded.le.trans (Nat.zero_le _), fun _ => h⟩

theorem Covered.congr {im : Image} {o : Outlet} {u v : OutletState} (h : Covered im o u) (same : holdings v = holdings u) :
    Covered im o v := by
  obtain ⟨within, rests⟩ := h
  obtain ⟨-, -, commanded, inEffect, -⟩ := holdings_eq.mp same
  exact ⟨commanded ▸ inEffect ▸ within, fun unfit => (rests unfit).congr same⟩

theorem Backed.of_atRest {im : Image} {s : State} (h : ∀ o, AtRest (s.out o)) : Backed im s := fun o => (h o).covered im o

section
variable {im : Image} {s t : State}

theorem Backed.congr (h : Backed im s) (same : ∀ o, holdings (t.out o) = holdings (s.out o)) : Backed im t :=
  fun o => (h o).congr (same o)

theorem Backed.of_out (h : Backed im s) (same : ∀ o, t.out o = s.out o) : Backed im t := h.congr fun o => by rw [same]

theorem Backed.modOut (h : Backed im s) (o : Outlet) {f : OutletState → OutletState}
    (same : holdings (f (s.out o)) = holdings (s.out o)) : Backed im (s.modOut o f) :=
  h.congr fun x => by
    rw [modOut_out]
    split
    · subst x; exact same
    · rfl

/-- An event at one outlet leaves both covered where it leaves that one covered. -/
theorem Backed.at_outlet (h : Backed im s) {o : Outlet} (other : t.out (otherOutlet o) = s.out (otherOutlet o))
    (own : Covered im o (t.out o)) : Backed im t := fun x => by
  by_cases same : x = o
  · exact same ▸ own
  · obtain rfl : x = otherOutlet o := by cases x <;> cases o <;> simp_all [otherOutlet]
    rw [other]
    exact h _

theorem Covered.of_fits {o : Outlet} {u : OutletState} (fits : fitted im o = true) (within : u.grl.commanded ≤ u.grl.inEffect) :
    Covered im o u := ⟨within, fun unfit => by rw [fits] at unfit; nomatch unfit⟩

theorem Covered.of_none {o : Outlet} {u : OutletState} (fits : fitted im o = true) (none : u.grl.commanded = 0) : Covered im o u :=
  .of_fits fits (none.le.trans (Nat.zero_le _))

theorem Backed.noteUpdate (h : Backed im s) (before : Announced) : Backed im (noteUpdate im before s) :=
  h.of_out fun o => out_noteUpdate im before s o

theorem Backed.raise (h : Backed im s) (f : EventFlag) : Backed im (raise f s) := h.of_out (raise_out f s)

theorem Backed.respond (h : Backed im s) (x : Status) (code : Nat) (p : List Byte) : Backed im (respond x code p s) :=
  h.of_out (respond_out x code p s)

theorem Backed.settleRises (h : Backed im s) : Backed im (settleRises s) := h.of_out (out_settleRises s)

theorem Backed.noted {f : State → State} (h : Backed im (f s)) : Backed im (noted im f s) := h.noteUpdate _

end

section
variable {im : Image} {s : State} (h : Backed im s)
include h

-- Rises (R78).

/-- A rise raises setpoint and in-effect grant together; an outlet not fitted has no pending rise. -/
theorem Backed.raiseBy {o : Outlet} {p : Nat} (pending : (s.out o).grl.pending = some p) (n : Nat) : Backed im (raiseBy o n s) := by
  have fits : fitted im o = true := by
    by_contra unfit
    obtain ⟨-, -, -, -, none⟩ := (h o).2 (Bool.eq_false_iff.mpr unfit)
    rw [pending] at none
    nomatch none
  refine h.at_outlet (out_modOut_other s o _) (.of_fits fits ?_)
  rw [Machine.raiseBy, out_modOut, sendWord_commanded, sendWord_inEffect]
  exact Nat.add_le_add_right (h o).1 n

theorem Backed.serveRises (xs : List Outlet) (n : Nat) : Backed im (serveRises im xs n s) := by
  induction xs generalizing n s with
  | nil => exact h
  | cons x xs ih =>
    unfold Machine.serveRises
    split
    · exact ih h n
    · dsimp only
      split
      · exact ih (h.raiseBy ‹_› _) _
      · exact ih h n

theorem Backed.evaluateRises : Backed im (evaluateRises im s) :=
  (h.serveRises s.grl.order (allowance im s)).of_out fun o => by cases o <;> rfl

theorem Backed.releaseRises : Backed im (releaseRises im s) := by
  unfold Machine.releaseRises
  split
  · exact h.evaluateRises.noted
  · exact h

-- The share and the hand-over (R46, R72).

omit h in
theorem loweredTo_covered {o : Outlet} {u : OutletState} (fits : fitted im o = true) (now : Nat) {n : Nat} (lower : n ≤ u.grl.inEffect) :
    Covered im o (loweredTo im now n u) := by
  refine .of_fits fits ?_
  rw [loweredTo, sendWord_commanded, sendWord_inEffect]
  exact lower

omit h in
/-- A hand-over raises no setpoint and lowers no in-effect grant (R73). -/
theorem Covered.handed {o : Outlet} {u : OutletState} (k : Covered im o u) (now : Nat) : Covered im o (handed im o now u) := by
  have within := k.1
  unfold Machine.handed
  split
  · rename_i fits
    split
    · split_ifs with floor lower
      · refine .of_none fits ?_
        change (loweredToNone im now (withTarget u)).grl.commanded = 0
        rw [loweredToNone]
        split
        · exact sendWord_commanded _
        · exact Nat.eq_zero_of_not_pos ‹_›
      · exact loweredTo_covered fits now (lower.le.trans within)
      all_goals exact .of_fits fits within
    · split
      all_goals exact .of_fits fits within
    all_goals exact .of_fits fits within
  · exact k

theorem Backed.handOverAt (o : Outlet) : Backed im (handOverAt im o s) := by
  refine h.at_outlet (out_handOverAt_other im o s) ?_
  rw [handOverAt_eq, out_putOutlet]
  exact (h o).handed s.now

theorem Backed.computeOnce : Backed im (computeOnce im s) := by
  have computed : Backed im (compute im s) := h.congr fun o => by rw [out_compute]; rfl
  exact Backed.noted (((computed.handOverAt .a).handOverAt .b).of_out (out_holdRises im _))

theorem Backed.computation : Backed im (computation im s) := by
  obtain ⟨u, last, -, k⟩ := computation_settles (fun _ k => Backed.computeOnce k) h
  rw [last]
  exact k.computeOnce

theorem Backed.outletEvent {before : State} : Backed im (outletEvent im before s) := by
  unfold Machine.outletEvent
  split
  · exact h.noteUpdate _
  · exact (h.noteUpdate _).computation

theorem Backed.triggered (before : State) : Backed im (triggered im before s) := (h.noteUpdate _).computation

-- The events at an outlet (R87, R101 to R117).

section
variable {o : Outlet} (fits : fitted im o = true)
include fits

theorem Backed.setSession (x : Session) : Backed im (setSession o x s) := by
  refine h.at_outlet (out_setSession_other o x s) (.of_fits fits ?_)
  rw [setSession_out]
  exact (h o).1

theorem Backed.withdraw : Backed im (withdraw im o s) :=
  h.at_outlet (out_withdraw_other im o s) (.of_none fits (out_withdraw im o s).1)

theorem Backed.completeClose : Backed im (completeClose o s) := by
  obtain ⟨commanded, -, other⟩ := out_completeClose o s
  exact h.at_outlet other (.of_none fits commanded)

theorem Backed.beginOpenWait : Backed im (beginOpenWait im o s) := by
  have opens : Backed im (s.modOut o (waitsOpen im s.now)) := h.modOut o rfl
  cases closed : (s.out o).feedback.level with
  | true => rw [beginOpenWait_closed closed]; exact opens
  | false => rw [beginOpenWait_open closed]; exact opens.completeClose fits

theorem Backed.reportOutput : Backed im (reportOutput im o s) := by
  unfold Machine.reportOutput
  split
  · exact (h.beginOpenWait fits).noted
  · exact h

theorem Backed.acceptClose : Backed im (acceptClose im o s) := by
  unfold Machine.acceptClose
  dsimp only
  have closing : ∀ {f : OutletState → OutletState}, holdings (f (s.out o)) = holdings (s.out o) →
      Backed im (Machine.setSession o .closing (s.modOut o f)) := fun same => (h.modOut o same).setSession fits _
  split
  · exact (closing rfl).beginOpenWait fits
  · exact (((closing rfl).modOut o rfl).withdraw fits).reportOutput fits

theorem Backed.enterDwell : Backed im (enterDwell im o s) := ((h.modOut o rfl).setSession fits _).withdraw fits

theorem Backed.exhaust : Backed im (exhaust im o s) := (((h.modOut o rfl).setSession fits _).raise _).withdraw fits

theorem Backed.acceptOpen (x : Header) : Backed im (acceptOpen im o x s) := by
  refine h.at_outlet (acceptOpen_keeps im o x s).2 (.of_fits fits ?_)
  have kept : ((Machine.acceptOpen im o x s).out o).grl.commanded = (s.out o).grl.commanded ∧
      ((Machine.acceptOpen im o x s).out o).grl.inEffect = (s.out o).grl.inEffect := by cases o <;> exact ⟨rfl, rfl⟩
  rw [kept.1, kept.2]
  exact (h o).1

theorem Backed.takeDemand {d f : Nat} {t : State} (taken : takeDemand o d f s = some t) : Backed im t := by
  have replaced : Backed im (replaceDemand o d f s) := h.modOut o rfl
  unfold Machine.takeDemand at taken
  split at taken
  case h_4 =>
    obtain rfl := Option.some.inj taken
    split
    · exact replaced.setSession fits _
    · exact replaced
  all_goals cases taken
  all_goals exact replaced

theorem Backed.takeComplete {t : State} (taken : takeComplete im o s = some t) : Backed im t := by
  unfold Machine.takeComplete at taken
  split at taken <;> cases taken
  · exact h.enterDwell fits
  · exact h.enterDwell fits
  · exact h.modOut o rfl

theorem Backed.testStart : Backed im (testStart o s) := by
  unfold Machine.testStart
  split
  · exact (h.modOut o rfl).setSession fits _
  · exact h

theorem Backed.lowerGrant : Backed im (lowerGrant o s) := by
  refine h.at_outlet (out_modOut_other s o _) (.of_fits fits ?_)
  rw [Machine.lowerGrant, out_modOut]

theorem Backed.confirmDecrease : Backed im (confirmDecrease im o s) := (h.lowerGrant fits).noted.releaseRises

theorem Backed.feedbackOpened (withheld : Withheld im s) : Backed im (feedbackOpened im o s) := by
  unfold Machine.feedbackOpened
  split
  · exact h.completeClose fits
  split
  · rename_i tripped
    refine h.at_outlet (out_modOut_other s o _) (.of_none fits ?_)
    rw [out_modOut]
    exact (withheld o fun dispenses => by rw [tripped] at dispenses; nomatch dispenses.2).1
  split
  · exact h.modOut o rfl
  · exact h

theorem Backed.checkCredit (p : Priced) : Backed im (checkCredit im o p s) := by
  unfold Machine.checkCredit
  dsimp only
  split
  · exact h.exhaust fits
  · exact h

end

theorem Backed.trip (o : Outlet) (cause : TripCause) : Backed im (trip im o cause s) := by
  rw [trip_eq]
  split
  · rename_i trips
    obtain ⟨-, commanded, -, other⟩ := out_tripOutlet o cause s
    have tripped : Backed im (tripOutlet o cause s) := h.at_outlet other (.of_none (Bool.and_eq_true_iff.mp trips).1 commanded)
    exact tripped.noted.releaseRises.settleRises
  · exact h

theorem Backed.tripEvent (o : Outlet) (cause : TripCause) : Backed im (tripEvent im o cause s) := (h.trip o cause).outletEvent

theorem Backed.tripBoth : Backed im (tripBoth im s) := by
  have drawn : Backed im (if s.grl.riseWaiting then { s with draws := s.draws + 1 } else s) := by
    split
    · exact h.of_out fun o => by cases o <;> rfl
    · exact h
  unfold Machine.tripBoth
  dsimp only
  split
  · exact (drawn.trip .b _).trip .a _
  · exact (drawn.trip .a _).trip .b _

/-- An outlet becomes IDLE without grants, fitted or not (R87). -/
theorem Backed.idle (o : Outlet) : Backed im (clearGrants o (Machine.setSession o .idle s)) := by
  refine h.at_outlet (o := o) ?_ (AtRest.covered ?_ im o)
  · rw [(clearGrants_keeps o _).2.1, out_setSession_other]
  · rw [clearGrants_out, setSession_out]
    exact ⟨rfl, rfl, rfl, rfl, rfl⟩

theorem Backed.serveSettleWait : Backed im (serveSettleWait s) := by
  unfold Machine.serveSettleWait
  split
  · exact h
  · refine Backed.idle (Backed.modOut ?_ _ rfl) _
    have left : ∀ rest, Backed im { s with stu.settleWait := rest } := fun rest => h.of_out fun o => by cases o <;> rfl
    split
    · exact (left _).of_out (out_enterQueue _ _)
    · exact left _

-- The meter (R125).

theorem Backed.accruePulse (o : Outlet) (p : Priced) : Backed im (accruePulse im o p s) := by
  have looked : Backed im (noteLookup o p s) := by
    unfold noteLookup
    dsimp only
    split
    · exact (h.modOut o rfl).raise _
    · exact h.modOut o rfl
  exact looked.modOut o rfl

theorem Backed.testOverDraw (o : Outlet) : Backed im (testOverDraw im o s) := by
  unfold Machine.testOverDraw
  dsimp only
  split
  · exact (h.modOut o rfl).tripEvent o _
  · exact h.modOut o rfl

theorem Backed.captureInterval (o : Outlet) : Backed im (captureInterval im o s) := by
  unfold Machine.captureInterval
  split
  · exact h
  · exact h.modOut o rfl
  · exact h.modOut o rfl
  · exact Backed.testOverDraw (h.modOut o rfl) o

theorem Backed.billPulse {o : Outlet} (fits : fitted im o = true) : Backed im (billPulse im o s) :=
  ((h.accruePulse o _).checkCredit fits _).outletEvent.captureInterval o

end

end Sys2Proof.Machine
end

section
/-! SUPPORT. The rows outside the line and the start-up: what runs stays backed, and nothing else moves an outlet (`RowBacks`). -/

namespace Sys2Proof.Machine

/-- A row keeps a RUNNING part backed, and the outlets of one that does not run as they are. -/
structure RowBacks (s t : State) : Prop where
  running : ∀ im, s.configured = .running im → Withheld im s → Backed im s → Backed im t
  idle : (∀ im, s.configured ≠ .running im) → ∀ o, t.out o = s.out o

theorem RowBacks.of_out {s t : State} (h : ∀ o, t.out o = s.out o) : RowBacks s t := ⟨fun _ _ _ b => b.of_out h, fun _ => h⟩

theorem backs_whenRunning {s : State} {f : Image → State} (h : ∀ im, Withheld im s → Backed im s → Backed im (f im)) :
    RowBacks s (whenRunning s f) :=
  ⟨fun im r => by rw [whenRunning_running r]; exact h im, fun n o => by rw [whenRunning_not_running n]⟩

theorem backs_whenFitted {s : State} {o : Outlet} {f : Image → State}
    (h : ∀ im, fitted im o = true → Withheld im s → Backed im s → Backed im (f im)) : RowBacks s (whenFitted s o f) :=
  backs_whenRunning fun im w b => by
    split
    · exact h im ‹_› w b
    · exact b

theorem backed_ite {im : Image} {p : Prop} [Decidable p] {s t : State} (b : Backed im s) (h : p → Backed im t) :
    Backed im (if p then t else s) := by
  split
  · exact h ‹_›
  · exact b

theorem backed_ite_not {im : Image} {p : Prop} [Decidable p] {s t : State} (b : Backed im s) (h : Backed im t) :
    Backed im (if p then s else t) := by
  split
  · exact b
  · exact h

-- The gates of the host port (R182 to R185).

theorem answerPending_out (s : State) (o : Outlet) : (answerPending s).out o = s.out o := by cases o <;> rfl

theorem refuse_out (x : Status) (code : Nat) (s : State) (o : Outlet) : (refuse x code s).out o = s.out o := respond_out ..

theorem finishCaptured_out (c : Instr) (s : State) (o : Outlet) : (finishCaptured c s).out o = s.out o := by
  rw [finishCaptured_keeps]; cases o <;> rfl

theorem hostAny_out {c : Instr} {f : State → State} (h : ∀ u o, (f u).out o = u.out o) (s : State) (o : Outlet) :
    (hostAny c f s).out o = s.out o := by
  have taken := (h (finishCaptured c s) o).trans (finishCaptured_out c s o)
  unfold hostAny
  split
  · exact answerPending_out s o
  · exact taken
  · split
    · exact answerPending_out s o
    · exact taken

theorem backs_hostRunning (c : Instr) (code : Nat) {f : Image → State → State} (s : State)
    (h : ∀ im u, Withheld im u → Backed im u → Backed im (f im u)) : RowBacks s (hostRunning c code f s) := by
  have finished := finishCaptured_out c s
  unfold hostRunning
  split
  · exact .of_out (answerPending_out s)
  · exact .of_out fun o => (refuse_out ..).trans (finished o)
  · rename_i im r
    split
    · exact .of_out (answerPending_out s)
    · refine ⟨fun im' r' w b => ?_, fun n => absurd r (n im)⟩
      obtain rfl : im = im' := by simpa [r] using r'
      exact h im _ ((unmoved_finishCaptured c s).withheld w) (b.of_out finished)

/-- A command of a RUNNING part that touches no outlet. -/
theorem backs_hostRunning_of_out (c : Instr) (code : Nat) {f : Image → State → State} (s : State)
    (h : ∀ im u o, (f im u).out o = u.out o) : RowBacks s (hostRunning c code f s) :=
  backs_hostRunning c code s fun im u _ b => b.of_out (h im u)

theorem Backed.refuse {im : Image} {s : State} (h : Backed im s) (x : Status) (code : Nat) : Backed im (refuse x code s) := h.respond _ _ _

-- The rows of the host port.

theorem backs_pending (s : State) : ∃ t, exec .pending s = .next t ∧ RowBacks s t := by
  simp only [exec, execPending]
  split
  · exact ⟨_, rfl, .of_out fun o => by cases o <;> rfl⟩
  · exact ⟨_, rfl, .of_out fun _ => rfl⟩

theorem backs_chipSelectRise (bytes : List Byte) (s : State) : ∃ t, exec (.chipSelectRise bytes) s = .next t ∧ RowBacks s t := by
  refine ⟨_, rfl, .of_out fun o => ?_⟩
  split
  · cases o <;> rfl
  split <;> cases o <;> rfl

theorem backs_unknownCommand (bytes : List Byte) (s : State) : ∃ t, exec (.unknownCommand bytes) s = .next t ∧ RowBacks s t := by
  simp only [exec, execUnknownCommand]
  split
  · exact ⟨_, rfl, .of_out fun _ => rfl⟩
  · refine ⟨_, rfl, .of_out (hostAny_out (fun u o => ?_) s)⟩
    split
    · exact refuse_out ..
    · rfl

theorem backs_nop (s : State) : ∃ t, exec .nop s = .next t ∧ RowBacks s t := ⟨_, rfl, .of_out (hostAny_out (fun _ => respond_out _ _ _ _) s)⟩

theorem backs_status (s : State) : ∃ t, exec .status s = .next t ∧ RowBacks s t :=
  ⟨_, rfl, .of_out (hostAny_out (fun _ => respond_out _ _ _ _) s)⟩

theorem backs_events (clear : BitVec 16) (s : State) : ∃ t, exec (.events clear) s = .next t ∧ RowBacks s t := by
  refine ⟨_, rfl, .of_out (hostAny_out (fun u o => ?_) s)⟩
  split
  · exact refuse_out ..
  · cases o <;> rfl

theorem backs_eventEnable (enable : BitVec 16) (s : State) : ∃ t, exec (.eventEnable enable) s = .next t ∧ RowBacks s t := by
  refine ⟨_, rfl, backs_hostRunning_of_out _ _ s fun im u o => ?_⟩
  split
  · exact refuse_out ..
  · cases o <;> rfl

theorem backs_lineStatus (s : State) : ∃ t, exec .lineStatus s = .next t ∧ RowBacks s t :=
  ⟨_, rfl, backs_hostRunning_of_out _ _ s fun _ _ => respond_out _ _ _ _⟩

theorem backs_setClock (minute : BitVec 16) (seconds : Byte) (s : State) :
    ∃ t, exec (.setClock minute seconds) s = .next t ∧ RowBacks s t := by
  refine ⟨_, rfl, backs_hostRunning_of_out _ _ s fun im u o => ?_⟩
  split
  · exact refuse_out ..
  · cases o <;> rfl

theorem backs_outletStatus (outlet : Byte) (s : State) : ∃ t, exec (.outletStatus outlet) s = .next t ∧ RowBacks s t := by
  refine ⟨_, rfl, backs_hostRunning_of_out _ _ s fun im u o => ?_⟩
  split
  · exact refuse_out ..
  · exact respond_out ..

theorem backs_rosterRead (id : Byte) (s : State) : ∃ t, exec (.rosterRead id) s = .next t ∧ RowBacks s t := by
  refine ⟨_, rfl, backs_hostRunning_of_out _ _ s fun im u o => ?_⟩
  split
  · exact refuse_out ..
  · exact respond_out ..

theorem backs_tariffLoad (bank : Byte) (image : Vector Byte 57) (s : State) :
    ∃ t, exec (.tariffLoad bank image) s = .next t ∧ RowBacks s t := by
  refine ⟨_, rfl, backs_hostRunning_of_out _ _ s fun im u o => ?_⟩
  split
  · exact refuse_out ..
  split
  · exact refuse_out ..
  split
  · cases o <;> rfl
  · exact refuse_out ..

theorem backs_tariffSelect (bank : Byte) (s : State) : ∃ t, exec (.tariffSelect bank) s = .next t ∧ RowBacks s t := by
  refine ⟨_, rfl, backs_hostRunning_of_out _ _ s fun im u o => ?_⟩
  split
  · exact refuse_out ..
  split
  · cases o <;> rfl
  · exact refuse_out ..

theorem backs_tariffRead (bank : Byte) (s : State) : ∃ t, exec (.tariffRead bank) s = .next t ∧ RowBacks s t := by
  refine ⟨_, rfl, backs_hostRunning_of_out _ _ s fun im u o => ?_⟩
  split
  · exact refuse_out ..
  · exact respond_out ..

theorem backs_recordPeek (s : State) : ∃ t, exec .recordPeek s = .next t ∧ RowBacks s t := by
  refine ⟨_, rfl, backs_hostRunning_of_out _ _ s fun im u o => ?_⟩
  split
  · exact refuse_out ..
  · exact respond_out ..

-- The commands of a session (R99, R102, R112, R177).

/-- The host's OPEN SESSION is refused but at an outlet that is fitted (R99). -/
theorem fits_of_openRefusal {im : Image} {s : State} {o : Outlet} (h : openRefusal im s o = none) : fitted im o = true := by
  unfold openRefusal at h
  split at h
  · nomatch h
  · simpa using ‹¬(!fitted im o) = true›

theorem backs_openSession (outlet : Byte) (reference hold : BitVec 32) (tier : Byte) (demand floor : BitVec 16) (s : State) :
    ∃ t, exec (.openSession outlet reference hold tier demand floor) s = .next t ∧ RowBacks s t := by
  refine ⟨_, rfl, backs_hostRunning _ _ s fun im u _ b => ?_⟩
  split
  · exact b.refuse _ _
  split
  · exact b.refuse _ _
  · rename_i accepted
    have fits := fits_of_openRefusal (Option.or_eq_none_iff.mp accepted).2
    exact ((b.acceptOpen fits _).triggered u).respond _ _ _

theorem Backed.demandTaken {im : Image} {s : State} (b : Backed im s) (d f : Nat) {after : Option State}
    (h : ∀ t, after = some t → Backed im t) : Backed im (demandTaken im s d f after) := by
  unfold Machine.demandTaken
  split
  · exact b.refuse _ _
  · exact ((h _ rfl).triggered s).respond _ _ _

theorem backs_setDemand (outlet : Byte) (demand floor : BitVec 16) (complete : Byte) (s : State) :
    ∃ t, exec (.setDemand outlet demand floor complete) s = .next t ∧ RowBacks s t := by
  refine ⟨_, rfl, backs_hostRunning _ _ s fun im u _ b => ?_⟩
  split
  · exact b.refuse _ _
  split
  · exact b.refuse _ _
  · rename_i o _ refused
    have fits : fitted im o = true := by simpa using (not_or.mp refused).2
    split
    · exact b.demandTaken 0 0 fun t taken => b.takeComplete fits taken
    · exact b.demandTaken _ _ fun t taken => b.takeDemand fits taken

theorem backs_closeSession (outlet : Byte) (s : State) : ∃ t, exec (.closeSession outlet) s = .next t ∧ RowBacks s t := by
  refine ⟨_, rfl, backs_hostRunning _ _ s fun im u _ b => ?_⟩
  split
  · exact b.refuse _ _
  split
  · exact b.refuse _ _
  split
  · exact ((b.acceptClose (by simpa using ‹¬fitted im _ = false›)).triggered u).respond _ _ _
  · exact b.refuse _ _

theorem backs_recordRelease (s : State) : ∃ t, exec .recordRelease s = .next t ∧ RowBacks s t := by
  refine ⟨_, rfl, backs_hostRunning _ _ s fun im u _ b => ?_⟩
  split
  · exact b.refuse _ _
  · rename_i rest _
    have released : Backed im { u with stu.queue := rest } := b.of_out fun o => by cases o <;> rfl
    exact released.serveSettleWait.outletEvent.respond _ _ _

-- The rows of the grants (spec/04).

theorem backs_riseHoldExpiry (s : State) : ∃ t, exec .riseHoldExpiry s = .next t ∧ RowBacks s t := by
  refine ⟨_, rfl, backs_whenRunning fun im _ b => backed_ite b fun _ => ?_⟩
  have stopped : Backed im { s with grl.riseHold := none } := b.of_out fun o => by cases o <;> rfl
  dsimp only
  split
  · exact stopped.evaluateRises.noted
  · exact stopped.of_out fun o => by cases o <;> rfl

theorem holdings_endWord (u : OutletState) : holdings (endWord u) = holdings u := by
  unfold endWord; dsimp only; split <;> rfl

theorem backs_setpointWordEnd (o : Outlet) (s : State) : ∃ t, exec (.setpointWordEnd o) s = .next t ∧ RowBacks s t :=
  ⟨_, rfl, backs_whenFitted fun _ _ _ b => backed_ite b fun _ => b.modOut o (holdings_endWord _)⟩

theorem backs_confirmation (o : Outlet) (s : State) : ∃ t, exec (.confirmation o) s = .next t ∧ RowBacks s t := by
  refine ⟨_, rfl, backs_whenFitted fun im fits _ b => backed_ite_not b ?_⟩
  have high : Backed im (s.modOut o settledHigh) := b.modOut o rfl
  dsimp only
  split
  · exact ((high.confirmDecrease fits).reportOutput fits).outletEvent
  · exact high

theorem backs_settledRecognisedLow (o : Outlet) (s : State) : ∃ t, exec (.settledRecognisedLow o) s = .next t ∧ RowBacks s t :=
  ⟨_, rfl, backs_whenFitted fun _ _ _ b => backed_ite b fun _ => b.modOut o rfl⟩

theorem backs_confirmTimeout (o : Outlet) (s : State) : ∃ t, exec (.confirmTimeout o) s = .next t ∧ RowBacks s t :=
  ⟨_, rfl, backs_whenFitted fun _ _ _ b => backed_ite b fun _ => (b.modOut o rfl).tripEvent o _⟩

theorem backs_parkHoldExpiry (o : Outlet) (s : State) : ∃ t, exec (.parkHoldExpiry o) s = .next t ∧ RowBacks s t := by
  refine ⟨_, rfl, backs_whenFitted fun im _ _ b => ?_⟩
  split
  · exact b.modOut o rfl
  · exact b
  · exact b

-- The rows of the outlets' inputs and timers (spec/05).

theorem Backed.eStop {im : Image} {s : State} (b : Backed im s) (x : Filter) : Backed im { s with eStop := x } :=
  b.of_out fun o => by cases o <;> rfl

theorem backs_eStopAsserted (s : State) : ∃ t, exec .eStopAsserted s = .next t ∧ RowBacks s t :=
  ⟨_, rfl, backs_whenRunning fun _ _ b => backed_ite_not b (b.eStop _).tripBoth.outletEvent⟩

theorem backs_eStopReleased (s : State) : ∃ t, exec .eStopReleased s = .next t ∧ RowBacks s t :=
  ⟨_, rfl, backs_whenRunning fun _ _ b => backed_ite b fun _ => b.eStop _⟩

theorem backs_holdChange (o : Outlet) (released : Bool) (s : State) : ∃ t, exec (.holdChange o released) s = .next t ∧ RowBacks s t :=
  ⟨_, rfl, backs_whenFitted fun _ fits _ b => backed_ite_not b ((b.modOut o rfl).testStart fits).outletEvent⟩

theorem backs_faultAsserted (o : Outlet) (s : State) : ∃ t, exec (.faultAsserted o) s = .next t ∧ RowBacks s t :=
  ⟨_, rfl, backs_whenFitted fun _ _ _ b => backed_ite_not b ((b.modOut o rfl).trip o _).outletEvent⟩

theorem backs_faultReleased (o : Outlet) (s : State) : ∃ t, exec (.faultReleased o) s = .next t ∧ RowBacks s t :=
  ⟨_, rfl, backs_whenFitted fun _ _ _ b => backed_ite b fun _ => b.modOut o rfl⟩

theorem backs_feedbackClosed (o : Outlet) (s : State) : ∃ t, exec (.feedbackClosed o) s = .next t ∧ RowBacks s t :=
  ⟨_, rfl, backs_whenFitted fun _ fits _ b => backed_ite_not b ((b.modOut o rfl).testStart fits).outletEvent⟩

theorem backs_feedbackOpen (o : Outlet) (s : State) : ∃ t, exec (.feedbackOpen o) s = .next t ∧ RowBacks s t :=
  ⟨_, rfl, backs_whenFitted fun _ fits w b => backed_ite b fun _ =>
    ((b.modOut o rfl).feedbackOpened fits ((unmoved_modOut s o _ rfl).withheld w)).outletEvent⟩

theorem backs_mismatchTimerExpiry (o : Outlet) (s : State) : ∃ t, exec (.mismatchTimerExpiry o) s = .next t ∧ RowBacks s t :=
  ⟨_, rfl, backs_whenFitted fun _ _ _ b => backed_ite b fun _ => (b.modOut o rfl).tripEvent o _⟩

theorem backs_startTimerExpiry (o : Outlet) (s : State) : ∃ t, exec (.startTimerExpiry o) s = .next t ∧ RowBacks s t :=
  ⟨_, rfl, backs_whenFitted fun _ _ _ b => backed_ite b fun _ => (b.modOut o rfl).tripEvent o _⟩

theorem backs_closeTimerExpiry (o : Outlet) (s : State) : ∃ t, exec (.closeTimerExpiry o) s = .next t ∧ RowBacks s t :=
  ⟨_, rfl, backs_whenFitted fun _ fits _ b => backed_ite b fun _ => ((b.modOut o rfl).completeClose fits).outletEvent⟩

-- The rows of the meter, the dwell minute and the clock (spec/06, spec/07, spec/08).

theorem backs_meterPulse (o : Outlet) (s : State) : ∃ t, exec (.meterPulse o) s = .next t ∧ RowBacks s t := by
  refine ⟨_, rfl, backs_whenFitted fun im fits _ b => backed_ite_not b ?_⟩
  have active : Backed im (s.modOut o fun u => { u with mtf.pulse := recognise true u.mtf.pulse }) := b.modOut o rfl
  dsimp only
  split
  · exact active.billPulse fits
  · exact (active.modOut o rfl).raise _

theorem backs_pulseRecognisedInactive (o : Outlet) (s : State) :
    ∃ t, exec (.pulseRecognisedInactive o) s = .next t ∧ RowBacks s t :=
  ⟨_, rfl, backs_whenFitted fun _ _ _ b => backed_ite b fun _ => b.modOut o rfl⟩

theorem backs_noFlow (o : Outlet) (s : State) : ∃ t, exec (.noFlow o) s = .next t ∧ RowBacks s t :=
  ⟨_, rfl, backs_whenFitted fun _ _ _ b => backed_ite b fun _ => b.modOut o rfl⟩

theorem backs_dwellMinute (o : Outlet) (s : State) : ∃ t, exec (.dwellMinute o) s = .next t ∧ RowBacks s t := by
  refine ⟨_, rfl, backs_whenFitted fun im _ _ b => backed_ite b fun _ => ?_⟩
  have charged : ∀ r : Accounts × Nat, Backed im (s.modOut o fun u => { u with acc := r.1 }) := fun r => b.modOut o rfl
  exact (charged _).of_out fun o => by cases o <;> rfl

theorem backs_tariffClockAdvance (s : State) : ∃ t, exec .tariffClockAdvance s = .next t ∧ RowBacks s t :=
  ⟨_, rfl, .of_out fun o => by cases o <;> rfl⟩

/-- Every row of the host port, the grants, the outlets and the meter keeps what runs backed. -/
theorem backs_elsewhere (c : Instr) (s : State) (h : changesLine c = false) : ∃ t, exec c s = .next t ∧ RowBacks s t := by
  cases c with
  | powerOn | resetLineAsserted | resetLineReleased | configurationReadEnd | passTimeout | configure | restart => cases h
  | leaveTimerExpiry | sharePeriodTick | quarterPeriodMark | attemptStart | arbitrationLoss | bitError => cases h
  | restTimerExpiry | ownFrameCompletion | stuffViolation | announceReceived | leaveReceived | lineIdle | frameStartBit => cases h
  | pending => exact backs_pending s
  | unknownCommand bytes => exact backs_unknownCommand bytes s
  | nop => exact backs_nop s
  | status => exact backs_status s
  | lineStatus => exact backs_lineStatus s
  | setClock => exact backs_setClock _ _ s
  | openSession => exact backs_openSession _ _ _ _ _ _ s
  | setDemand => exact backs_setDemand _ _ _ _ s
  | closeSession => exact backs_closeSession _ s
  | outletStatus => exact backs_outletStatus _ s
  | rosterRead => exact backs_rosterRead _ s
  | tariffLoad => exact backs_tariffLoad _ _ s
  | tariffSelect => exact backs_tariffSelect _ s
  | tariffRead => exact backs_tariffRead _ s
  | recordPeek => exact backs_recordPeek s
  | recordRelease => exact backs_recordRelease s
  | events => exact backs_events _ s
  | eventEnable => exact backs_eventEnable _ s
  | riseHoldExpiry => exact backs_riseHoldExpiry s
  | setpointWordEnd o => exact backs_setpointWordEnd o s
  | confirmation o => exact backs_confirmation o s
  | confirmTimeout o => exact backs_confirmTimeout o s
  | parkHoldExpiry o => exact backs_parkHoldExpiry o s
  | eStopAsserted => exact backs_eStopAsserted s
  | eStopReleased => exact backs_eStopReleased s
  | holdChange o released => exact backs_holdChange o released s
  | faultAsserted o => exact backs_faultAsserted o s
  | faultReleased o => exact backs_faultReleased o s
  | feedbackClosed o => exact backs_feedbackClosed o s
  | feedbackOpen o => exact backs_feedbackOpen o s
  | mismatchTimerExpiry o => exact backs_mismatchTimerExpiry o s
  | startTimerExpiry o => exact backs_startTimerExpiry o s
  | closeTimerExpiry o => exact backs_closeTimerExpiry o s
  | meterPulse o => exact backs_meterPulse o s
  | noFlow o => exact backs_noFlow o s
  | dwellMinute o => exact backs_dwellMinute o s
  | settledRecognisedLow o => exact backs_settledRecognisedLow o s
  | pulseRecognisedInactive o => exact backs_pulseRecognisedInactive o s
  | tariffClockAdvance => exact backs_tariffClockAdvance s
  | chipSelectRise bytes => exact backs_chipSelectRise bytes s

end Sys2Proof.Machine
end

section
/-! SUPPORT. The rows of the line and of the start-up, and 0.1 ms, as the in-effect grants see them (`Stands`). -/

namespace Sys2Proof.Machine

/-- The part does not run, and both outlets are at rest. -/
def Rests (s : State) : Prop := (∀ im, s.configured ≠ .running im) ∧ ∀ o, AtRest (s.out o)

/-- A part that runs is backed, one that does not is at rest. -/
def Stands (s : State) : Prop := (∃ im, s.configured = .running im ∧ Backed im s) ∨ Rests s

theorem GrantsSafe.rests {s : State} (h : GrantsSafe s) (n : ∀ im, s.configured ≠ .running im) : Rests s := by
  refine ⟨n, ?_⟩
  unfold GrantsSafe at h
  split at h
  · exact absurd ‹_› (n _)
  all_goals
    obtain ⟨a, b⟩ := h
    intro o
    cases o
    exacts [a, b]

theorem GrantsSafe.backed {im : Image} {s : State} (h : GrantsSafe s) (r : s.configured = .running im) : Backed im s := by
  rw [GrantsSafe, r] at h
  obtain ⟨⟨unfitA, -, withinA, -⟩, ⟨unfitB, -, withinB, -⟩, -⟩ := h
  intro o
  cases o
  exacts [⟨withinA, unfitA⟩, ⟨withinB, unfitB⟩]

-- The rows of the line and the roster.

/-- The configuration stands, and a backed part stays backed. -/
structure KeepsBacked (im : Image) (s t : State) : Prop where
  configured : t.configured = s.configured
  backed : Backed im s → Backed im t

/-- The part stays backed, or it is reset. -/
def EndsBacked (im : Image) (s t : State) : Prop := KeepsBacked im s t ∨ Rests t

theorem KeepsBacked.refl (im : Image) (s : State) : KeepsBacked im s s := ⟨rfl, id⟩

theorem KeepsBacked.trans {im : Image} {s t u : State} (h : KeepsBacked im s t) (k : KeepsBacked im t u) : KeepsBacked im s u :=
  ⟨k.configured.trans h.configured, fun b => k.backed (h.backed b)⟩

theorem KeepsBacked.ends {im : Image} {s t : State} (h : KeepsBacked im s t) : EndsBacked im s t := .inl h

theorem EndsBacked.refl (im : Image) (s : State) : EndsBacked im s s := (KeepsBacked.refl im s).ends

theorem OutletsKept.keeps {s t : State} (h : OutletsKept s t) (im : Image) : KeepsBacked im s t := ⟨h.configured, fun b => b.of_out h.out⟩

theorem outletsKept_slc (s : State) (x : Slc) : OutletsKept s { s with slc := x } := ⟨rfl, rfl, rfl, rfl⟩

theorem keeps_slc {im : Image} (s : State) (x : Slc) : KeepsBacked im s { s with slc := x } := (outletsKept_slc s x).keeps im

theorem outletsKept_hpt (s : State) (x : Hpt) : OutletsKept s { s with hpt := x } := ⟨rfl, rfl, rfl, rfl⟩

theorem outletsKept_finishCaptured (c : Instr) (s : State) : OutletsKept s (finishCaptured c s) := by
  rw [finishCaptured_keeps]; exact outletsKept_hpt s _

theorem keeps_computation (im : Image) (s : State) : KeepsBacked im s (computation im s) :=
  ⟨by rw [(shared_computation im s).1]; rfl, Backed.computation⟩

theorem keeps_finishRoster {im : Image} {before s : State} (h : OutletsKept before s) : KeepsBacked im before (finishRoster im before s) := by
  have kept := (h.trans (outletsKept_evaluated im (announced im before) s)).keeps im
  unfold finishRoster
  dsimp only
  split
  · exact kept.trans (keeps_computation im _)
  · exact kept

theorem keeps_tickRoster (im : Image) (s : State) : KeepsBacked im s (tickRoster im s) := by
  have kept := (rosterOnly_rosterTicked im s).outletsKept.trans (outletsKept_evaluated im (announced im s) _)
  rw [tickRoster_eq]
  exact (kept.keeps im).trans (keeps_computation im _)

theorem rests_reinitialise (s : State) : Rests (reinitialise s) :=
  ⟨nofun, fun o => by cases o <;> exact ⟨rfl, rfl, rfl, rfl, rfl⟩⟩

theorem EndsBacked.then_slc {im : Image} {s t : State} (h : EndsBacked im s t) (x : Slc) : EndsBacked im s { t with slc := x } := by
  rcases h with keeps | ⟨n, rest⟩
  · exact .inl (keeps.trans (keeps_slc t x))
  · exact .inr ⟨n, fun o => by cases o; exacts [rest .a, rest .b]⟩

theorem EndsBacked.leaveCheck {im : Image} {s t : State} (h : EndsBacked im s t) : EndsBacked im s (leaveCheck t) := by
  rcases leaveCheck_cases t with ⟨ends, -⟩ | same
  · rw [ends]; exact .inr (rests_reinitialise t)
  · rw [same]; exact h

/-- A row of the line: what runs stays backed or is reset, and what does not run keeps its outlets. -/
structure RowEnds (s t : State) : Prop where
  running : ∀ im, s.configured = .running im → EndsBacked im s t
  idle : (∀ im, s.configured ≠ .running im) → ∀ o, t.out o = s.out o

theorem OutletsKept.row {s t : State} (h : OutletsKept s t) : RowEnds s t := ⟨fun im _ => (h.keeps im).ends, fun _ => h.out⟩

theorem ends_whenRunning {s : State} {f : Image → State} (h : ∀ im, EndsBacked im s (f im)) : RowEnds s (whenRunning s f) :=
  ⟨fun im r => by rw [whenRunning_running r]; exact h im, fun n o => by rw [whenRunning_not_running n]⟩

theorem ends_hostRunning (c : Instr) (code : Nat) {f : Image → State → State} (s : State) (h : ∀ im u, EndsBacked im u (f im u)) :
    RowEnds s (hostRunning c code f s) := by
  have finished := outletsKept_finishCaptured c s
  unfold hostRunning
  split
  · exact (outletsKept_hpt s _).row
  · exact (finished.trans (outletsKept_hpt _ _)).row
  · rename_i im r
    split
    · exact (outletsKept_hpt s _).row
    · refine ⟨fun im' r' => ?_, fun n => absurd r (n im)⟩
      obtain rfl : im = im' := by simpa [r] using r'
      exact (h im _).imp_left (finished.keeps im).trans

theorem ends_restart (s : State) : ∃ t, exec .restart s = .next t ∧ RowEnds s t := by
  refine ⟨_, rfl, ends_hostRunning _ _ s fun im u => ?_⟩
  split
  · unfold beginLeave
    split
    · exact (((outletsKept_hpt u _).keeps im).trans (keeps_slc _ _)).ends
    · exact .inr (rests_reinitialise _)
  · exact ((outletsKept_hpt u _).keeps im).ends

theorem ends_leaveTimerExpiry (s : State) : ∃ t, exec .leaveTimerExpiry s = .next t ∧ RowEnds s t := by
  refine ⟨_, rfl, ends_whenRunning fun im => ?_⟩
  split
  · exact (keeps_slc s _).ends.leaveCheck
  · exact .refl im s

theorem outletsKept_tickCause (s : State) : OutletsKept s (tickCause s) := by
  unfold tickCause
  split
  · split <;> exact ⟨rfl, rfl, rfl, rfl⟩
  · exact ⟨rfl, rfl, rfl, rfl⟩

theorem ends_sharePeriodTick (s : State) : ∃ t, exec .sharePeriodTick s = .next t ∧ RowEnds s t :=
  ⟨_, rfl, ends_whenRunning fun im =>
    ((((outletsKept_slc s _).trans (outletsKept_tickCause _)).keeps im).trans (keeps_tickRoster im _)).ends⟩

theorem ends_quarterPeriodMark (s : State) : ∃ t, exec .quarterPeriodMark s = .next t ∧ RowEnds s t := by
  refine ⟨_, rfl, ends_whenRunning fun im => ?_⟩
  split
  · exact (keeps_slc s _).ends
  all_goals exact .refl im s

theorem ends_attemptStart (s : State) : ∃ t, exec .attemptStart s = .next t ∧ RowEnds s t := by
  refine ⟨_, rfl, ends_whenRunning fun im => ?_⟩
  split
  · split
    · exact (keeps_slc s _).ends
    · exact .refl im s
  all_goals exact .refl im s

theorem ends_arbitrationLoss (s : State) : ∃ t, exec .arbitrationLoss s = .next t ∧ RowEnds s t := by
  refine ⟨_, rfl, ends_whenRunning fun im => ?_⟩
  split
  · exact (keeps_slc s _).ends.leaveCheck
  all_goals exact .refl im s

theorem ends_bitError (s : State) : ∃ t, exec .bitError s = .next t ∧ RowEnds s t := by
  refine ⟨_, rfl, ends_whenRunning fun im => ?_⟩
  split
  · refine EndsBacked.then_slc (EndsBacked.leaveCheck ?_) _
    split
    · exact (keeps_finishRoster (before := s) (s := startRest (abortFrame _ s)) ⟨rfl, rfl, rfl, rfl⟩).ends
    · exact (keeps_slc s _).ends
  all_goals exact .refl im s

theorem ends_restTimerExpiry (s : State) : ∃ t, exec .restTimerExpiry s = .next t ∧ RowEnds s t := by
  refine ⟨_, rfl, ends_whenRunning fun im => ?_⟩
  split
  · exact (keeps_finishRoster (before := s) (s := { s with slc.restTimer := none, slc.tx := .on, slc.bitErrorRun := 0 })
      ⟨rfl, rfl, rfl, rfl⟩).ends
  · exact .refl im s

theorem ends_ownFrameCompletion (acknowledged : Bool) (s : State) :
    ∃ t, exec (.ownFrameCompletion acknowledged) s = .next t ∧ RowEnds s t := by
  refine ⟨_, rfl, ends_whenRunning fun im => ?_⟩
  split
  · have reported : KeepsBacked im (completeFrame s) (reportCompletion im acknowledged (completeFrame s)) := by
      unfold reportCompletion
      split
      · exact keeps_finishRoster (s := { completeFrame s with prs.ackSilence := 0 }) ⟨rfl, rfl, rfl, rfl⟩
      · exact keeps_slc _ _
    exact (((keeps_slc s _).trans reported).trans (keeps_slc _ _)).ends
  · exact .inr (rests_reinitialise _)
  all_goals exact .refl im s

theorem ends_stuffViolation (s : State) : ∃ t, exec .stuffViolation s = .next t ∧ RowEnds s t := by
  refine ⟨_, rfl, ends_whenRunning fun im => ?_⟩
  split
  · exact (keeps_slc s _).ends
  · exact .refl im s

theorem ends_lineIdle (s : State) : ∃ t, exec .lineIdle s = .next t ∧ RowEnds s t := by
  refine ⟨_, rfl, OutletsKept.row ?_⟩
  split <;> exact ⟨rfl, rfl, rfl, rfl⟩

theorem ends_frameStartBit (s : State) : ∃ t, exec .frameStartBit s = .next t ∧ RowEnds s t := by
  refine ⟨_, rfl, OutletsKept.row ?_⟩
  unfold whenRunning
  split
  · split <;> exact ⟨rfl, rfl, rfl, rfl⟩
  · exact ⟨rfl, rfl, rfl, rfl⟩

theorem ends_conflictFrame_backed (im : Image) (s : State) : EndsBacked im s (conflictFrame im s) := by
  unfold conflictFrame
  refine EndsBacked.leaveCheck ?_
  split
  · exact (OutletsKept.keeps (s := s) (t := barTransmitter s) ⟨rfl, rfl, rfl, rfl⟩ im).ends
  · exact (keeps_finishRoster (before := s) (s := barTransmitter s) ⟨rfl, rfl, rfl, rfl⟩).ends

theorem ends_judgeFrame_backed {im : Image} {bytes : List Byte} {mark malformed : Bool} {deliver : State → State} {s : State}
    (h : ∀ u, KeepsBacked im u (deliver u)) : EndsBacked im s (judgeFrame im bytes mark malformed deliver s) := by
  rcases judgeFrame_cases im bytes mark malformed deliver s with e | ⟨-, e | e | ⟨-, -, e⟩⟩ <;> rw [e]
  · exact .refl im s
  · exact (keeps_slc s _).ends
  · exact ends_conflictFrame_backed im s
  · exact ((keeps_slc s _).trans (h _)).ends

theorem ends_announceReceived (frame : Vector Byte 21) (mark : Bool) (s : State) :
    ∃ t, exec (.announceReceived frame mark) s = .next t ∧ RowEnds s t := by
  refine ⟨_, rfl, ends_whenRunning fun im => ?_⟩
  dsimp only
  split
  · exact ends_judgeFrame_backed fun u => .refl im u
  · exact ends_judgeFrame_backed fun u => keeps_finishRoster (rosterOnly_announceHeard im _ _ _ u).outletsKept

theorem ends_leaveReceived (frame : Vector Byte 4) (mark : Bool) (s : State) :
    ∃ t, exec (.leaveReceived frame mark) s = .next t ∧ RowEnds s t :=
  ⟨_, rfl, ends_whenRunning fun im => ends_judgeFrame_backed fun u => keeps_finishRoster (rosterOnly_leaveHeard im _ u).outletsKept⟩

theorem ends_line (c : Instr) (s : State) (line : changesLine c = true) (start : startsUp c = false) :
    ∃ t, exec c s = .next t ∧ RowEnds s t := by
  cases c with
  | powerOn | resetLineAsserted | resetLineReleased | configurationReadEnd | passTimeout | configure => cases start
  | restart => exact ends_restart s
  | leaveTimerExpiry => exact ends_leaveTimerExpiry s
  | sharePeriodTick => exact ends_sharePeriodTick s
  | quarterPeriodMark => exact ends_quarterPeriodMark s
  | attemptStart => exact ends_attemptStart s
  | arbitrationLoss => exact ends_arbitrationLoss s
  | bitError => exact ends_bitError s
  | restTimerExpiry => exact ends_restTimerExpiry s
  | ownFrameCompletion acknowledged => exact ends_ownFrameCompletion acknowledged s
  | stuffViolation => exact ends_stuffViolation s
  | announceReceived frame mark => exact ends_announceReceived frame mark s
  | leaveReceived frame mark => exact ends_leaveReceived frame mark s
  | lineIdle => exact ends_lineIdle s
  | frameStartBit => exact ends_frameStartBit s
  | _ => cases line

-- The rows of the start-up (R203 to R209).

/-- A part that enters RUNNING with its outlets at rest is backed (R48, R208). -/
theorem backed_enterRunning (im : Image) {s : State} (h : ∀ o, AtRest (s.out o)) : Backed im (enterRunning im s) := by
  have words : ∀ {u}, Backed im u → Backed im (firstWord im .b (firstWord im .a u)) := fun b => by
    have word : ∀ o {v}, Backed im v → Backed im (firstWord im o v) := fun o v b => by
      unfold firstWord
      split
      · exact b.modOut o rfl
      · exact b
    exact word .b (word .a b)
  have started : ∀ x, Backed im (raise .restart
      { s with
        configured := .running im, slc := x, prs := Prs.start im, eStop := startFilter false s.eStop
        outA := startFilters s.outA, outB := startFilters s.outB }) := fun x =>
    (Backed.of_atRest h).congr fun o => by cases o <;> rfl
  unfold enterRunning
  dsimp only
  split
  · exact words (started _).computation
  · exact words ((started _).modOut .b rfl).computation

theorem stands_enterRunning (im : Image) {s : State} (h : ∀ o, AtRest (s.out o)) : Stands (enterRunning im s) :=
  .inl ⟨im, enterRunning_configured im s, backed_enterRunning im h⟩

/-- A change that leaves outlets and configuration as they are. -/
theorem Stands.of_out {s t : State} (h : Stands s) (configured : t.configured = s.configured) (out : ∀ o, t.out o = s.out o) : Stands t := by
  rcases h with ⟨im, r, b⟩ | ⟨n, rest⟩
  · exact .inl ⟨im, configured.trans r, b.of_out out⟩
  · exact .inr ⟨configured ▸ n, fun o => (out o).symm ▸ rest o⟩

theorem OutletsKept.stands {s t : State} (h : OutletsKept s t) (k : Stands s) : Stands t := k.of_out h.configured h.out

theorem Stands.rests {s : State} (h : Stands s) (n : ∀ im, s.configured ≠ .running im) : ∀ o, AtRest (s.out o) := by
  rcases h with ⟨im, r, -⟩ | ⟨-, rest⟩
  · exact absurd r (n im)
  · exact rest

/-- A part that does not run before or after, its outlets as they were. -/
theorem Stands.of_idle {s t : State} (h : Stands s) (n : ∀ im, s.configured ≠ .running im) (n' : ∀ im, t.configured ≠ .running im)
    (out : ∀ o, t.out o = s.out o) : Stands t := .inr ⟨n', fun o => (out o).symm ▸ h.rests n o⟩

theorem stands_configure {image : Vector Byte 64} {s t : State} (h : Stands s) (e : exec (.configure image) s = .next t) : Stands t := by
  have kept := outletsKept_finishCaptured (.configure image) s
  have refused : Stands (refuse .badValue 4 (finishCaptured (.configure image) s)) := (kept.trans (outletsKept_hpt _ _)).stands h
  have wrong : Stands (refuse .wrongState 4 (finishCaptured (.configure image) s)) := (kept.trans (outletsKept_hpt _ _)).stands h
  have answered : Stands (answerPending s) := (outletsKept_hpt s _).stands h
  simp only [exec, execConfigure, hostAny] at e
  split at e <;> rename_i state
  · cases e; exact answered
  · simp only [kept.configured, state] at e
    split at e <;> cases e
    · exact refused
    · have rest : ∀ o, AtRest ((finishCaptured (.configure image) s).out o) := fun o => kept.out o ▸ h.rests (by simp [state]) o
      exact (outletsKept_hpt _ _).stands (stands_enterRunning _ rest)
  · simp only [kept.configured, state] at e
    split at e <;> cases e
    · exact answered
    · exact wrong

theorem stands_startsUp {c : Instr} (k : startsUp c = true) {s t : State} (h : Stands s) (e : exec c s = .next t) : Stands t := by
  cases c with
  | powerOn =>
    cases e
    refine .inr ⟨by split <;> nofun, fun o => ?_⟩
    split <;> cases o <;> exact ⟨rfl, rfl, rfl, rfl, rfl⟩
  | resetLineAsserted => cases e; exact .inr ⟨nofun, fun o => by cases o <;> exact ⟨rfl, rfl, rfl, rfl, rfl⟩⟩
  | resetLineReleased =>
    simp only [exec, execResetLineReleased] at e
    split at e <;> cases e
    · exact h.of_idle (by simp [*]) nofun fun o => by cases o <;> rfl
    all_goals exact h.of_out rfl fun o => by cases o <;> rfl
  | configurationReadEnd result =>
    simp only [exec, execConfigurationReadEnd] at e
    split at e
    · have n : ∀ im, s.configured ≠ .running im := by simp [*]
      split at e
      · cases e; exact h.of_idle n nofun fun o => by cases o <;> rfl
      · split at e <;> cases e
        · exact stands_enterRunning _ (h.rests n)
        · exact h.of_idle n nofun fun o => by cases o <;> rfl
    all_goals cases e; exact h
  | passTimeout =>
    simp only [exec, execPassTimeout] at e
    split at e <;> cases e
    · exact h.of_idle (by simp [*]) nofun fun o => by cases o <;> rfl
    all_goals exact h
  | configure image => exact stands_configure h e
  | _ => cases k

/-- Every row keeps what runs backed, and what does not run at rest. -/
theorem stands_exec (c : Instr) {s t : State} (h : Stands s) (w : ∀ im, s.configured = .running im → Withheld im s)
    (e : exec c s = .next t) : Stands t := by
  cases line : changesLine c with
  | false =>
    obtain ⟨u, eu, elsewhere⟩ := exec_elsewhere c s line
    obtain ⟨u', eu', backs⟩ := backs_elsewhere c s line
    obtain rfl : u = t := by rw [eu] at e; cases e; rfl
    obtain rfl : u' = u := by rw [eu'] at e; cases e; rfl
    rcases h with ⟨im, r, b⟩ | ⟨n, rest⟩
    · exact .inl ⟨im, (elsewhere.1 im r).1.configured.trans r, backs.running im r (w im r) b⟩
    · exact .inr ⟨(elsewhere.2 n).configured ▸ n, fun o => (backs.idle n o).symm ▸ rest o⟩
  | true =>
    cases start : startsUp c with
    | true => exact stands_startsUp start h e
    | false =>
      obtain ⟨u, eu, ends⟩ := ends_line c s line start
      obtain rfl : u = t := by rw [eu] at e; cases e; rfl
      rcases h with ⟨im, r, b⟩ | ⟨n, rest⟩
      · rcases ends.running im r with keeps | reset
        · exact .inl ⟨im, keeps.configured.trans r, keeps.backed b⟩
        · exact .inr reset
      · exact .inr ⟨line_not_running line start n e ▸ n, fun o => (ends.idle n o).symm ▸ rest o⟩

-- A step.

/-- 0.1 ms counts and samples, which is no grant. -/
theorem stands_advance {s : State} (h : Stands s) : Stands (advance s) := by
  rcases h with ⟨im, r, b⟩ | ⟨n, rest⟩
  · refine .inl ⟨im, (unmoved_advance r).configured.trans r, b.congr fun o => ?_⟩
    obtain ⟨d, outlet⟩ := advance_out r o
    rw [outlet]
    split
    · split
      · obtain ⟨_, _, counted, -⟩ := countOutlet_spec (sampleOutlet im (tenthOutlet im (s.out o))) d
        rw [counted]; rfl
      · rfl
    · rfl
  · obtain ⟨-, -, same | ⟨-, n'⟩⟩ := advance_line s
    · exact .inr ⟨same ▸ n, fun o => by rw [advance_not_running n]; cases o; exacts [rest .a, rest .b]⟩
    · exact .inr ⟨n', fun o => by rw [advance_not_running n]; cases o; exacts [rest .a, rest .b]⟩

theorem GrantsSafe.stands {s : State} (h : GrantsSafe s) : Stands s := by
  by_cases running : ∃ im, s.configured = .running im
  · obtain ⟨im, r⟩ := running
    exact .inl ⟨im, r, h.backed r⟩
  · exact .inr (h.rests fun im r => running ⟨im, r⟩)

theorem stands_step {s t : State} (h : GrantsSafe s) (e : step s = .next t) : Stands t := by
  rcases step_next_cases e with rfl | ⟨c, pending, draws, e⟩
  · exact stands_advance h.stands
  · have queued : OutletsKept s { s with pending := pending, draws := draws } := ⟨rfl, rfl, rfl, rfl⟩
    exact stands_exec c (queued.stands h.stands) (fun im r => queued.withheld (h.withheld r)) e

end Sys2Proof.Machine
end

section
/-! PROOF. Setpoints within ratings, targets and in-effect grants, at every step (R69, R84). -/

namespace Sys2Proof.Machine

/-- The setpoints are within the ratings of the outlets and of the pedestal, and a pending rise is above its setpoint and at most the
target (R69, R76). -/
structure Bounded (im : Image) (s : State) : Prop where
  commanded : ∀ o, (s.out o).grl.commanded ≤ pOut im o
  pending : ∀ o p, (s.out o).grl.pending = some p →
    (s.out o).grl.commanded < p ∧ p ≤ (s.out o).grl.target ∧ (s.out o).grl.target ≤ pOut im o
  total : stationCommanded s ≤ im.pMax

theorem GrantsSafe.bounded {im : Image} {s : State} (h : GrantsSafe s) (r : s.configured = .running im) : Bounded im s := by
  rw [GrantsSafe, r] at h
  obtain ⟨⟨-, mostA, -, -, risesA⟩, ⟨-, mostB, -, -, risesB⟩, total⟩ := h
  exact ⟨fun o => by cases o; exacts [mostA, mostB], fun o => by cases o; exacts [risesA, risesB], total⟩

theorem Unmoved.bounded {im : Image} {s t : State} (h : Unmoved s t) (k : Bounded im s) : Bounded im t := by
  refine ⟨fun o => ?_, fun o => ?_, h.stationCommanded ▸ k.total⟩ <;>
    obtain ⟨-, -, -, target, commanded, pending⟩ := grantPart_eq.mp (h.outlet o)
  · rw [commanded]; exact k.commanded o
  · rw [commanded, target, pending]; exact k.pending o

/-- A rise goes no further than its pending rise, and the station's total no further than P_max (R78). -/
theorem Bounded.evaluateRises {im : Image} {s : State} (h : Bounded im s) : Bounded im (evaluateRises im s) := by
  refine ⟨fun o => ?_, fun o q is => ?_, ?_⟩
  · rcases (risen_evaluateRises im s o).raised with ⟨same, -⟩ | ⟨p, was, most, -⟩
    · rw [same]; exact h.commanded o
    · obtain ⟨-, target, rating⟩ := h.pending o p was
      exact most.trans (target.trans rating)
  · have risen := risen_evaluateRises im s o
    rw [risen.target]
    rcases risen.raised with ⟨same, pending⟩ | ⟨p, was, -, pending⟩
    · rw [same]; exact h.pending o q (pending ▸ is)
    · rw [pending] at is
      split at is
      · obtain rfl := Option.some.inj is
        exact ⟨‹_›, (h.pending o p was).2⟩
      · nomatch is
  · exact (stationCommanded_evaluateRises im s).trans (max_le h.total (Nat.min_le_right _ _))

theorem Bounded.grantless {im : Image} {s : State} (h : Bounded im s) (o : Outlet) : Bounded im (s.modOut o grantless) := by
  refine ⟨fun x => ?_, fun x p is => ?_, le_trans ?_ h.total⟩
  · rw [modOut_out]
    split
    · exact Nat.zero_le _
    · exact h.commanded x
  · rw [modOut_out] at is ⊢
    split at is
    · nomatch is
    · rw [if_neg ‹_›]; exact h.pending x p is
  · cases o <;> simp [stationCommanded, Machine.grantless]

/-- Where the setpoints are at most the targets, the splits of the pedestal hold them within the ratings (R54, R60, R69). -/
theorem bounded_of_follow {im : Image} {s : State} (withheld : Withheld im s) (shares : SharesFollow im s) (grants : GrantsFollow im s) :
    Bounded im s := by
  have split : ∀ o, siteShare im s none o ≤ splitDemand im s none o := siteShare_le im s none
  have rating : ∀ o, siteShare im s none o ≤ pOut im o := fun o =>
    (split o).trans ((splitDemand_le im s none o).trans (rawDemand_le im s o))
  have follows : ∀ o, fitted im o = true ∧ (s.out o).osc.state = .dispensing →
      (s.out o).grl.target = siteShare im s none o ∧ (s.out o).grl.commanded ≤ (s.out o).grl.target ∧
        (s.out o).grl.pending = if (s.out o).grl.commanded < (s.out o).grl.target then some (s.out o).grl.target else none :=
    fun o dispenses => by
      obtain ⟨target, follows⟩ := grants o dispenses.1
      obtain ⟨-, commanded, pending⟩ := follows dispenses.2
      exact ⟨by rw [target, shares.2 o]; rfl, commanded, pending⟩
  have most : ∀ o, (s.out o).grl.commanded ≤ siteShare im s none o := fun o => by
    by_cases dispenses : fitted im o = true ∧ (s.out o).osc.state = .dispensing
    · obtain ⟨target, commanded, -⟩ := follows o dispenses
      exact target ▸ commanded
    · exact (withheld o dispenses).1.le.trans (Nat.zero_le _)
  refine ⟨fun o => (most o).trans (rating o), fun o p is => ?_, ?_⟩
  · by_cases dispenses : fitted im o = true ∧ (s.out o).osc.state = .dispensing
    · obtain ⟨target, -, pending⟩ := follows o dispenses
      rw [pending] at is
      split at is
      · obtain rfl := Option.some.inj is
        exact ⟨‹_›, le_rfl, target ▸ rating o⟩
      · nomatch is
    · rw [(withheld o dispenses).2] at is; nomatch is
  · exact (Nat.add_le_add ((most .a).trans (split .a)) ((most .b).trans (split .b))).trans (splitDemand_add_le im s none)

theorem bounded_computation {im : Image} {s : State} (w : Withheld im s) : Bounded im (computation im s) :=
  bounded_of_follow w.computation (follow_computation im s).1 (follow_computation im s).2

theorem Served.bounded {im : Image} {s t : State} (h : Served im s t) (w : Withheld im s) (k : Bounded im s) : Bounded im t := by
  induction h with
  | same h => exact h.bounded k
  | rises s => exact k.evaluateRises
  | cleared => exact k.grantless _
  | computed _ h => exact bounded_computation (h w)
  | trans h _ ih ih' => exact ih' (h.withheld w) (ih w k)

/-- After a step of a part that then runs, its setpoints are withheld outside DISPENSING and within the ratings. -/
theorem withheld_bounded_step {im : Image} {s t : State} (h : GrantsSafe s) (e : step s = .next t) (r : t.configured = .running im) :
    Withheld im t ∧ Bounded im t := by
  rcases step_serves e r with ⟨r', served⟩ | ⟨n, u, grl, started⟩
  · exact ⟨served.withheld (h.withheld r'), served.bounded (h.withheld r') (h.bounded r')⟩
  · have withheld : Withheld im u := fun o => by
      obtain ⟨commanded, pending⟩ := h.not_running n o
      exact withheldAt_of_none (by rw [grl, commanded]) (by rw [grl, pending])
    exact ⟨started.withheld withheld.computation, started.bounded (bounded_computation withheld)⟩

theorem grantsSafe_running {im : Image} {s : State} (r : s.configured = .running im) (backed : Backed im s) (withheld : Withheld im s)
    (bounded : Bounded im s) : GrantsSafe s := by
  have outlet : ∀ o, OutletGrants im o (s.out o) := fun o =>
    ⟨(backed o).2, bounded.commanded o, (backed o).1, fun other => withheld o fun dispenses => other dispenses.2, bounded.pending o⟩
  rw [GrantsSafe, r]
  exact ⟨outlet .a, outlet .b, bounded.total⟩

theorem Rests.grantsSafe {s : State} (h : Rests s) : GrantsSafe s := by
  obtain ⟨n, rest⟩ := h
  unfold GrantsSafe
  split
  · exact absurd ‹_› (n _)
  all_goals exact ⟨rest .a, rest .b⟩

/-- Settles O7: a step keeps the setpoint under the in-effect grant row by row (`Stands`), and the ratings, the targets and P_max because
what it does to the grants is a rise, a computation or a loss of them (`Served`). -/
theorem grantsStaySafe : Obligations.GrantsStaySafe := by
  intro s t safe e
  rcases stands_step safe e with ⟨im, r, backed⟩ | rests
  · obtain ⟨withheld, bounded⟩ := withheld_bounded_step safe e r
    exact grantsSafe_running r backed withheld bounded
  · exact rests.grantsSafe

end Sys2Proof.Machine
end

section
/-! SUPPORT. The contactors and the settle-wait order (R96 to R98, R117): what leaves them steady but for parkings, resumptions and a FEEDBACK
that is found open (`Steady`). -/

namespace Sys2Proof.Machine

/-- The drive of an outlet, its close phase, and its start, mismatch and close timers. -/
def contactor (c : Osc) : Bool × Option ClosePhase × Timer × Timer × Timer :=
  (c.driveClosed, c.closePhase, c.startTimer, c.mismatchTimer, c.closeTimer)

theorem contactor_eq {c d : Osc} :
    contactor d = contactor c ↔
      d.driveClosed = c.driveClosed ∧ d.closePhase = c.closePhase ∧ d.startTimer = c.startTimer ∧
        d.mismatchTimer = c.mismatchTimer ∧ d.closeTimer = c.closeTimer := by
  simp only [contactor, Prod.mk.injEq]

/-- The contactor is as it was, FEEDBACK has not closed, and the session has at most parked or resumed. -/
structure SteadyAt (u v : OutletState) : Prop where
  contactor : contactor v.osc = contactor u.osc
  feedback : v.feedback.level = true → u.feedback.level = true
  session : ParksOnly u.osc.state v.osc.state

/-- Both contactors are steady, and the settle-wait order is as it was. -/
structure Steady (s t : State) : Prop where
  order : t.stu.settleWait = s.stu.settleWait
  outlet : ∀ o, SteadyAt (s.out o) (t.out o)

theorem SteadyAt.refl (u : OutletState) : SteadyAt u u := ⟨rfl, id, .refl _⟩

theorem SteadyAt.trans {u v w : OutletState} (h : SteadyAt u v) (k : SteadyAt v w) : SteadyAt u w :=
  ⟨k.contactor.trans h.contactor, fun closed => h.feedback (k.feedback closed), h.session.trans k.session⟩

/-- Parkings and resumptions keep the drive closed and stop no timer that runs (R96, R97). -/
theorem SteadyAt.outletDrive {u v : OutletState} (h : SteadyAt u v) (k : OutletDrive u) : OutletDrive v := by
  obtain ⟨same, opens, session⟩ := h
  obtain ⟨drive, phase, start, mismatch, close⟩ := contactor_eq.mp same
  have feedback : u.feedback.level = false → v.feedback.level = false := fun open_ =>
    Bool.eq_false_iff.mpr fun closed => Bool.eq_false_iff.mp open_ (opens closed)
  unfold OutletDrive driveOf at *
  rw [drive, phase, start, mismatch, close]
  obtain ⟨driven, phased, mismatched, starting, closing⟩ := k
  rcases session with state | ⟨was, is⟩ | ⟨was, is⟩
  · rw [← state]
    exact ⟨driven, phased, fun runs => ⟨(mismatched runs).1, feedback (mismatched runs).2⟩, starting, closing⟩
  all_goals
    rw [was] at driven phased starting closing
    rw [is]
    exact ⟨driven, by simpa using phased, fun runs => ⟨(mismatched runs).1, feedback (mismatched runs).2⟩,
      fun runs => absurd (starting runs) nofun, fun runs => absurd (closing runs).1 nofun⟩

theorem ParksOnly.settleWait_iff {x y : Session} (h : ParksOnly x y) : y = .settleWait ↔ x = .settleWait := by
  rcases h with rfl | ⟨rfl, rfl⟩ | ⟨rfl, rfl⟩
  · rfl
  · exact ⟨nofun, nofun⟩
  · exact ⟨nofun, nofun⟩

theorem sessionsSafe_iff {s : State} :
    SessionsSafe s ↔ (∀ o, OutletDrive (s.out o)) ∧ s.stu.settleWait.Nodup ∧
      ∀ o, o ∈ s.stu.settleWait ↔ (s.out o).osc.state = .settleWait := by
  refine ⟨fun ⟨a, b, order⟩ => ⟨fun o => ?_, order⟩, fun ⟨drive, order⟩ => ⟨drive .a, drive .b, order⟩⟩
  cases o
  exacts [a, b]

theorem SessionsSafe.drive {s : State} (h : SessionsSafe s) (o : Outlet) : OutletDrive (s.out o) := (sessionsSafe_iff.mp h).1 o

theorem SessionsSafe.steady {s t : State} (h : SessionsSafe s) (k : Steady s t) : SessionsSafe t := by
  obtain ⟨drive, once, waits⟩ := sessionsSafe_iff.mp h
  refine sessionsSafe_iff.mpr ⟨fun o => (k.outlet o).outletDrive (drive o), k.order ▸ once, fun o => ?_⟩
  rw [k.order, waits, (k.outlet o).session.settleWait_iff]

theorem Steady.refl (s : State) : Steady s s := ⟨rfl, fun _ => .refl _⟩

theorem Steady.trans {s t u : State} (h : Steady s t) (k : Steady t u) : Steady s u :=
  ⟨k.order.trans h.order, fun o => (h.outlet o).trans (k.outlet o)⟩

theorem Steady.of_outlets {s t : State} (stu : t.stu = s.stu) (a : t.outA = s.outA) (b : t.outB = s.outB) : Steady s t := by
  refine ⟨by rw [stu], fun o => ?_⟩
  cases o <;> simp only [out_a, out_b, a, b] <;> exact .refl _

theorem steady_modOut (s : State) (o : Outlet) {f : OutletState → OutletState} (h : SteadyAt (s.out o) (f (s.out o))) :
    Steady s (s.modOut o f) := by
  refine ⟨by rw [modOut_stu], fun x => ?_⟩
  rw [modOut_out]
  split
  · subst x; exact h
  · exact .refl _

/-- A change at an outlet outside its session, its contactor and FEEDBACK. -/
theorem steady_at {s : State} {o : Outlet} {f : OutletState → OutletState} (osc : (f (s.out o)).osc = (s.out o).osc)
    (feedback : (f (s.out o)).feedback = (s.out o).feedback) : Steady s (s.modOut o f) :=
  steady_modOut s o ⟨by rw [osc], by rw [feedback]; exact id, by rw [osc]; exact .refl _⟩

/-- What either outlet's event may do to the other one does to both contactors nothing but park and resume. -/
theorem steady_of_eventAt {s t : State} (h : ∀ o, EventAt o s t) : Steady s t := by
  have other : ∀ o, SteadyAt (s.out (otherOutlet o)) (t.out (otherOutlet o)) := fun o => by
    obtain ⟨-, keeps, parks, -⟩ := h o
    exact ⟨by rw [keeps]; rfl, by rw [keeps]; exact id, parks⟩
  refine ⟨by rw [(h .a).1], fun o => ?_⟩
  cases o
  exacts [other .b, other .a]

theorem Shared.steady {s t : State} (h : Shared s t) : Steady s t := steady_of_eventAt h.eventAt

theorem steady_raise (f : EventFlag) (s : State) : Steady s (raise f s) := .of_outlets rfl rfl rfl

theorem steady_hpt (s : State) (x : Hpt) : Steady s { s with hpt := x } := .of_outlets rfl rfl rfl

theorem steady_slc (s : State) (x : Slc) : Steady s { s with slc := x } := .of_outlets rfl rfl rfl

theorem steady_respond (x : Status) (code : Nat) (p : List Byte) (s : State) : Steady s (respond x code p s) := steady_hpt s _

theorem steady_refuse (x : Status) (code : Nat) (s : State) : Steady s (refuse x code s) := steady_hpt s _

theorem steady_finishCaptured (c : Instr) (s : State) : Steady s (finishCaptured c s) := by
  rw [finishCaptured_keeps]; exact steady_hpt s _

theorem steady_noteUpdate (im : Image) (before : Announced) (s : State) : Steady s (noteUpdate im before s) :=
  (shared_noteUpdate im before s).steady

theorem steady_computation (im : Image) (s : State) : Steady s (computation im s) := (shared_computation im s).steady

theorem steady_outletEvent (im : Image) (before s : State) : Steady s (outletEvent im before s) :=
  (shared_outletEvent im before s).steady

theorem steady_triggered (im : Image) (before s : State) : Steady s (triggered im before s) := (shared_triggered im before s).steady

theorem steady_settleRises (s : State) : Steady s (settleRises s) := steady_of_eventAt fun o => eventAt_settleRises o s

theorem steady_releaseRises (im : Image) (s : State) : Steady s (releaseRises im s) :=
  steady_of_eventAt fun o => eventAt_releaseRises im o s

theorem RosterOnly.steady {s t : State} (h : RosterOnly s t) : Steady s t := by
  rw [h.1]; exact .of_outlets rfl rfl rfl

end Sys2Proof.Machine
end

section
/-! SUPPORT. The changes of session (R96 to R98, R101, R112 to R117): each leaves the drive and the timers as the new state says. -/

namespace Sys2Proof.Machine

-- The drive by the state.

section
variable {u : OutletState} (h : OutletDrive u)
include h

theorem OutletDrive.drive_eq : u.osc.driveClosed = driveOf u.osc := h.1

theorem OutletDrive.closePhase_none (other : u.osc.state ≠ .closing) : u.osc.closePhase = none := by
  obtain ⟨-, phase, -⟩ := h
  exact Option.not_isSome_iff_eq_none.mp fun some => other (phase.mp some)

theorem OutletDrive.startTimer_none (other : u.osc.state ≠ .starting) : u.osc.startTimer = none := by
  obtain ⟨-, -, -, start, -⟩ := h
  exact Option.not_isSome_iff_eq_none.mp fun some => other (start some)

theorem OutletDrive.closeTimer_none (other : u.osc.state ≠ .closing) : u.osc.closeTimer = none := by
  obtain ⟨-, -, -, -, close⟩ := h
  exact Option.not_isSome_iff_eq_none.mp fun some => other (close some).1

theorem OutletDrive.mismatchTimer_none (opened : u.osc.driveClosed = false) : u.osc.mismatchTimer = none := by
  obtain ⟨-, -, mismatch, -⟩ := h
  refine Option.not_isSome_iff_eq_none.mp fun some => ?_
  rw [(mismatch some).1] at opened
  nomatch opened

theorem OutletDrive.mismatchTimer_open (runs : u.osc.mismatchTimer.isSome = true) : u.feedback.level = false := (h.2.2.1 runs).2

end

/-- A state of an outlet with its contactor driven closed, outside a close (R96). -/
def driven : Session → Bool
  | .starting => true
  | .dispensing => true
  | .parked => true
  | .dwell => true
  | .exhausted => true
  | .idle => false
  | .tripped => false
  | .closing => false
  | .settleWait => false

theorem OutletDrive.driveClosed_of_driven {u : OutletState} (h : OutletDrive u) (state : driven u.osc.state = true) :
    u.osc.driveClosed = true := by
  rw [h.drive_eq, driveOf]
  split <;> simp_all [driven]

/-- An outlet with its drive closed and no close under way (R96 to R98, R101). -/
theorem outletDrive_of_driven {u : OutletState} (state : driven u.osc.state = true) (drive : u.osc.driveClosed = true)
    (phase : u.osc.closePhase = none) (start : u.osc.startTimer.isSome = true → u.osc.state = .starting)
    (mismatch : u.osc.mismatchTimer.isSome = true → u.feedback.level = false) (close : u.osc.closeTimer = none) : OutletDrive u := by
  unfold OutletDrive driveOf
  rw [drive, phase, close]
  refine ⟨?_, ?_, fun runs => ⟨rfl, mismatch runs⟩, start, nofun⟩ <;> cases k : u.osc.state <;> simp_all [driven]

/-- An outlet with its drive open and no close under way has no timer (R96, R97). -/
theorem outletDrive_of_undriven {u : OutletState} (state : u.osc.state = .idle ∨ u.osc.state = .settleWait ∨ u.osc.state = .tripped)
    (opened : contactor u.osc = (false, none, none, none, none)) : OutletDrive u := by
  simp only [contactor, Prod.mk.injEq] at opened
  obtain ⟨drive, phase, start, mismatch, close⟩ := opened
  unfold OutletDrive driveOf
  rw [drive, phase, start, mismatch, close]
  rcases state with state | state | state <;> simp [state]

-- An event at one outlet.

/-- An event at an outlet that neither enters nor leaves SETTLE_WAIT, where its contactor ends as its state says. -/
theorem SessionsSafe.modOut {s : State} (h : SessionsSafe s) (o : Outlet) {f : OutletState → OutletState}
    (drive : OutletDrive (f (s.out o))) (stays : (f (s.out o)).osc.state = .settleWait ↔ (s.out o).osc.state = .settleWait) :
    SessionsSafe (s.modOut o f) := by
  obtain ⟨drives, once, waits⟩ := sessionsSafe_iff.mp h
  refine sessionsSafe_iff.mpr ⟨fun x => ?_, by rw [modOut_stu]; exact once, fun x => ?_⟩ <;> rw [modOut_out]
  · split
    · exact drive
    · exact drives x
  · rw [modOut_stu, waits]
    split
    · subst x; exact stays.symm
    · rfl

section
variable {s : State} (h : SessionsSafe s)
include h

/-- The start condition takes a STARTING outlet to DISPENSING and stops its start timer (R101). -/
theorem SessionsSafe.testStart (o : Outlet) : SessionsSafe (testStart o s) := by
  have drive := h.drive o
  unfold Machine.testStart
  split
  · rename_i starts
    have starting : (s.out o).osc.state = .starting := by
      simp only [startCondition, Bool.and_eq_true, beq_iff_eq] at starts
      exact starts.1.1
    have driven_ : driven (s.out o).osc.state = true := by rw [starting]; rfl
    have left : (s.out o).osc.state ≠ .closing := starting ▸ nofun
    rw [setSession, modOut_modOut]
    refine (h.modOut o ?_ ?_).steady (steady_raise _ _)
    · exact outletDrive_of_driven rfl (drive.driveClosed_of_driven driven_) (drive.closePhase_none left) nofun
        drive.mismatchTimer_open (drive.closeTimer_none left)
    · rw [starting]; exact ⟨nofun, nofun⟩
  · exact h

/-- A trip opens the drive and stops every timer (R97, R108). -/
theorem SessionsSafe.trip (im : Image) (o : Outlet) (cause : TripCause) : SessionsSafe (trip im o cause s) := by
  rw [trip_eq]
  split
  · rename_i trips
    have can := trippable_iff.mp (Bool.and_eq_true_iff.mp trips).2
    have off : SessionsSafe (s.modOut o (tripsOff cause)) := by
      refine h.modOut o (outletDrive_of_undriven (.inr (.inr rfl)) rfl) ⟨nofun, fun waits => ?_⟩
      simp [waits] at can
    rw [tripped, noted, tripOutlet_eq]
    exact off.steady ((((steady_raise _ _).trans (steady_raise _ _)).trans (steady_noteUpdate im _ _)).trans
      ((steady_releaseRises im _).trans (steady_settleRises _)))
  · exact h

theorem SessionsSafe.tripEvent (im : Image) (o : Outlet) (cause : TripCause) : SessionsSafe (tripEvent im o cause s) :=
  (h.trip im o cause).steady (steady_outletEvent im s _)

theorem SessionsSafe.tripBoth (im : Image) : SessionsSafe (tripBoth im s) := by
  have drawn : SessionsSafe (if s.grl.riseWaiting then { s with draws := s.draws + 1 } else s) := by
    split
    · exact h
    · exact h
  unfold Machine.tripBoth
  dsimp only
  split
  · exact (drawn.trip im .b _).trip im .a _
  · exact (drawn.trip im .a _).trip im .b _

end

-- The close (R112 to R117).

/-- An outlet with an open contactor leaves its session: IDLE, or at the end of the settle-wait order (R116, R117). -/
theorem SessionsSafe.leave {s t : State} (h : SessionsSafe s) {o : Outlet} (was : (s.out o).osc.state ≠ .settleWait)
    (other : t.out (otherOutlet o) = s.out (otherOutlet o)) (opened : contactor (t.out o).osc = (false, none, none, none, none))
    (ends : (t.out o).osc.state = .idle ∧ t.stu.settleWait = s.stu.settleWait ∨
      (t.out o).osc.state = .settleWait ∧ t.stu.settleWait = s.stu.settleWait ++ [o]) : SessionsSafe t := by
  obtain ⟨drives, once, waits⟩ := sessionsSafe_iff.mp h
  have new : o ∉ s.stu.settleWait := fun listed => was ((waits o).mp listed)
  have other_waits := waits (otherOutlet o)
  have apart : otherOutlet o ≠ o := by cases o <;> nofun
  have own : OutletDrive (t.out o) := outletDrive_of_undriven (by rcases ends with ⟨state, -⟩ | ⟨state, -⟩ <;> simp [state]) opened
  have each : ∀ {P : Outlet → Prop}, P o → P (otherOutlet o) → ∀ x, P x := fun here there x => by
    cases o <;> cases x
    exacts [here, there, there, here]
  refine sessionsSafe_iff.mpr ⟨each own (other ▸ drives _), ?_⟩
  rcases ends with ⟨state, order⟩ | ⟨state, order⟩ <;> rw [order]
  · exact ⟨once, each (by simp [state, new]) (by rw [other]; exact other_waits)⟩
  · exact ⟨List.nodup_append_comm.mpr (List.nodup_cons.mpr ⟨new, once⟩), each (by simp [state]) (by simp [other, ← other_waits, apart])⟩

theorem settleWait_settleRecord (o : Outlet) (r : Record) (s : State) :
    (settleRecord o r s).stu.settleWait =
      if s.stu.queue.length < 8 then s.stu.settleWait else s.stu.settleWait ++ [o] := by
  rw [(eventAt_settleRecord o r s).1]
  dsimp only
  split <;> rfl

/-- A close that completes with its drive open ends in IDLE or SETTLE_WAIT (R115 to R117). -/
theorem SessionsSafe.completeClose {s : State} (h : SessionsSafe s) {o : Outlet} (closing : (s.out o).osc.state = .closing)
    (opened : (s.out o).osc.driveClosed = false) : SessionsSafe (completeClose o s) := by
  have drive := h.drive o
  have stu := settleWait_settleRecord o (buildRecord o (s.out o)) (s.modOut o (closedAccounts (buildRecord o (s.out o))))
  have own := out_settleRecord o (buildRecord o (s.out o)) (s.modOut o (closedAccounts (buildRecord o (s.out o))))
  have order : (Machine.completeClose o s).stu.settleWait = _ :=
    (congrArg Stu.settleWait (congrArg State.stu (clearGrants_keeps o _).1)).trans stu
  refine h.leave (closing ▸ nofun) (out_completeClose o s).2.2 ?_ ?_
  · have start := drive.startTimer_none (closing ▸ nofun)
    have mismatch := drive.mismatchTimer_none opened
    rw [completeClose_eq, clearGrants_out, own, out_modOut]
    simp [contactor, closedAccounts, opened, start, mismatch]
  · rw [out_completeClose_state, order, modOut_stu]
    split
    · exact .inl ⟨rfl, rfl⟩
    · exact .inr ⟨rfl, rfl⟩

/-- The outlet in OPEN WAIT: the drive is open and the close timer alone runs (R97, R113). -/
theorem outletDrive_waitsOpen {im : Image} {now : Nat} {u : OutletState} (closing : u.osc.state = .closing)
    (start : u.osc.startTimer = none) : OutletDrive (waitsOpen im now u) := by
  simp [OutletDrive, driveOf, waitsOpen, closing, start]

section
variable {im : Image} {s : State} {o : Outlet}

theorem SessionsSafe.beginOpenWait (h : SessionsSafe (s.modOut o (waitsOpen im s.now))) (closing : (s.out o).osc.state = .closing) :
    SessionsSafe (beginOpenWait im o s) := by
  cases closed : (s.out o).feedback.level with
  | true => rw [beginOpenWait_closed closed]; exact h
  | false =>
    rw [beginOpenWait_open closed]
    exact h.completeClose (by rw [out_modOut]; exact closing) (by rw [out_modOut]; rfl)

variable (h : SessionsSafe s)
include h

theorem SessionsSafe.reportOutput : SessionsSafe (reportOutput im o s) := by
  unfold Machine.reportOutput
  split
  · rename_i down
    have closing := (outputDown_iff.mp down).1
    refine SessionsSafe.steady (SessionsSafe.beginOpenWait (h.modOut o ?_ .rfl) closing) (steady_noteUpdate im _ _)
    exact outletDrive_waitsOpen closing ((h.drive o).startTimer_none (closing ▸ nofun))
  · exact h

theorem outletDrive_outputWaiting (was : driven (s.out o).osc.state = true) :
    OutletDrive (outputWaiting im s.now (s.out o)) := by
  have drive := h.drive o
  obtain ⟨osc, feedback⟩ := outputWaiting_keeps im s.now (s.out o)
  have close := drive.closeTimer_none (by intro closing; rw [closing] at was; nomatch was)
  have mismatch := drive.mismatchTimer_open
  simp [OutletDrive, driveOf, osc, feedback, closingOutlet, drive.driveClosed_of_driven was, close]
  simpa using mismatch

theorem SessionsSafe.acceptClose (accepts : closable (s.out o).osc.state = true) : SessionsSafe (acceptClose im o s) := by
  have inside : (s.out o).osc.state ≠ .settleWait := fun waits => by rw [waits] at accepts; nomatch accepts
  by_cases tripped : (s.out o).osc.state = .tripped
  · rw [acceptClose_tripped tripped]
    refine SessionsSafe.beginOpenWait ?_ (by rw [raise_out, out_modOut]; rfl)
    rw [modOut_raise, modOut_modOut]
    refine (h.modOut o ?_ ?_).steady (steady_raise _ _)
    · exact outletDrive_waitsOpen rfl rfl
    · exact iff_of_false nofun inside
  · have was : driven (s.out o).osc.state = true := by
      cases state : (s.out o).osc.state <;> simp_all [closable, driven]
    rw [acceptClose_waiting tripped]
    refine SessionsSafe.reportOutput ((h.modOut o (outletDrive_outputWaiting h was) ?_).steady
      ((steady_raise _ _).trans (steady_settleRises _)))
    rw [(outputWaiting_keeps ..).1]
    exact ⟨nofun, fun waits => absurd waits inside⟩

theorem SessionsSafe.feedbackOpened (open_ : (s.out o).feedback.level = false) : SessionsSafe (feedbackOpened im o s) := by
  have drive := h.drive o
  by_cases waits : inOpenWait (s.out o).osc = true
  · obtain ⟨closing, phase⟩ := inOpenWait_iff.mp waits
    rw [feedbackOpened_openWait waits]
    refine h.completeClose closing ?_
    rw [drive.drive_eq, driveOf, closing, phase]
    rfl
  by_cases tripped : (s.out o).osc.state = .tripped
  · rw [feedbackOpened_tripped tripped]
    exact h.steady (steady_at rfl rfl)
  cases closed : (s.out o).osc.driveClosed with
  | true =>
    obtain ⟨driven, phase, -, start, close⟩ := id drive
    rw [feedbackOpened_driven waits tripped closed]
    exact h.modOut o ⟨driven, phase, fun _ => ⟨closed, open_⟩, start, close⟩ .rfl
  | false => rw [feedbackOpened_undriven waits tripped closed]; exact h

end

-- The start of a session, DWELL and EXHAUSTED (R100, R103, R104, R106).

/-- The outlet that an accepted OPEN SESSION leaves in STARTING (R100). -/
def opensWith (im : Image) (header : Header) (bank : Bank) (now : Nat) (u : OutletState) : OutletState :=
  { u with
    osc :=
      { u.osc with
        state := .starting, header := header, sessionTime := 0, closeOrigin := .other, tripCause := none, closePhase := none
        exhaustedFlag := false, forcedOpen := false, driveClosed := true
        startTimer := some (now + im.startTimeout * 1000)
        mismatchTimer := if u.feedback.level then none else some (now + im.feedbackTime) }
    acc := .cleared
    mtf := startCapture u.mtf
    tru := bindSession bank u.tru
    grl := { u.grl with peak := 0, parkedMs := 0 } }

theorem acceptOpen_eq (im : Image) (o : Outlet) (header : Header) (s : State) :
    acceptOpen im o header s =
      raise (changeFlag o)
        (State.modOut { s with grl.order := s.grl.order ++ [o] } o (opensWith im header s.tru.selected s.now)) := by
  cases o <;> rfl

/-- The outlet that leaves DISPENSING or PARKED for DWELL (R103). -/
def dwellsOff (im : Image) (now : Nat) (u : OutletState) : OutletState :=
  withdrawnOutlet im now
    { u with
      osc := { u.osc with state := .dwell, header := { u.osc.header with demand := 0, floor := 0 } }
      acc := beginDwell u.acc }

theorem enterDwell_eq (im : Image) (o : Outlet) (s : State) :
    enterDwell im o s = settleRises (raise (changeFlag o) (s.modOut o (dwellsOff im s.now))) := by
  rw [enterDwell, withdraw_eq_modOut, setSession, modOut_raise, modOut_modOut, modOut_modOut, raise_now, modOut_now, modOut_now]
  rfl

/-- The outlet that leaves DISPENSING for EXHAUSTED (R106). -/
def exhaustsOff (im : Image) (now : Nat) (u : OutletState) : OutletState :=
  withdrawnOutlet im now { u with osc := { u.osc with state := .exhausted, exhaustedFlag := true } }

theorem exhaust_eq (im : Image) (o : Outlet) (s : State) :
    exhaust im o s = settleRises (raise .exhausted (raise (changeFlag o) (s.modOut o (exhaustsOff im s.now)))) := by
  rw [exhaust, withdraw_eq_modOut, setSession, modOut_raise, modOut_raise, modOut_modOut, modOut_modOut, raise_now, raise_now,
    modOut_now, modOut_now]
  rfl

theorem withdrawnOutlet_keeps (im : Image) (now : Nat) (u : OutletState) :
    (withdrawnOutlet im now u).osc = u.osc ∧ (withdrawnOutlet im now u).feedback = u.feedback := by
  unfold withdrawnOutlet loweredToNone
  split <;> exact ⟨rfl, rfl⟩

/-- An outlet between two states of a driven contactor outside STARTING (R96). -/
theorem outletDrive_moves {u v : OutletState} (h : OutletDrive u) (was : driven u.osc.state = true) (other : u.osc.state ≠ .starting)
    (is : driven v.osc.state = true) (same : contactor v.osc = contactor u.osc) (feedback : v.feedback = u.feedback) :
    OutletDrive v := by
  obtain ⟨drive, phase, start, mismatch, close⟩ := contactor_eq.mp same
  have left : u.osc.state ≠ .closing := fun closing => by rw [closing] at was; nomatch was
  refine outletDrive_of_driven is (drive.trans (h.driveClosed_of_driven was)) (phase.trans (h.closePhase_none left)) ?_ ?_
    (close.trans (h.closeTimer_none left))
  · rw [start, h.startTimer_none other]; nofun
  · rw [mismatch, feedback]; exact h.mismatchTimer_open

section
variable {im : Image} {s : State} {o : Outlet} (h : SessionsSafe s)
include h

theorem SessionsSafe.acceptOpen (idle : (s.out o).osc.state = .idle) (header : Header) : SessionsSafe (acceptOpen im o header s) := by
  have drive := h.drive o
  have ordered : SessionsSafe { s with grl.order := s.grl.order ++ [o] } := h.steady (.of_outlets rfl rfl rfl)
  have same : (State.out { s with grl.order := s.grl.order ++ [o] } o) = s.out o := by cases o <;> rfl
  rw [acceptOpen_eq]
  refine (ordered.modOut o ?_ ?_).steady (steady_raise _ _) <;> rw [same]
  · refine outletDrive_of_driven rfl rfl rfl (fun _ => rfl) (fun runs => ?_) (drive.closeTimer_none (idle ▸ nofun))
    change (s.out o).feedback.level = false
    cases closed : (s.out o).feedback.level with
    | true => simp [opensWith, closed] at runs
    | false => rfl
  · rw [idle]; exact ⟨nofun, nofun⟩

/-- A change between two states of a driven contactor outside STARTING. -/
theorem SessionsSafe.moves {f : OutletState → OutletState} (was : driven (s.out o).osc.state = true)
    (other : (s.out o).osc.state ≠ .starting) (is : driven (f (s.out o)).osc.state = true)
    (same : contactor (f (s.out o)).osc = contactor (s.out o).osc) (feedback : (f (s.out o)).feedback = (s.out o).feedback) :
    SessionsSafe (s.modOut o f) := by
  refine h.modOut o (outletDrive_moves (h.drive o) was other is same feedback) ⟨fun waits => ?_, fun waits => ?_⟩
  · rw [waits] at is; nomatch is
  · rw [waits] at was; nomatch was

theorem SessionsSafe.enterDwell (was : driven (s.out o).osc.state = true) (other : (s.out o).osc.state ≠ .starting) :
    SessionsSafe (enterDwell im o s) := by
  obtain ⟨osc, feedback⟩ := withdrawnOutlet_keeps im s.now
    { s.out o with
      osc := { (s.out o).osc with state := .dwell, header := { (s.out o).osc.header with demand := 0, floor := 0 } }
      acc := beginDwell (s.out o).acc }
  rw [enterDwell_eq]
  exact (h.moves was other (f := dwellsOff im s.now) (by rw [dwellsOff, osc]; rfl) (by rw [dwellsOff, osc]; rfl)
    feedback).steady ((steady_raise _ _).trans (steady_settleRises _))

theorem SessionsSafe.exhaust (was : (s.out o).osc.state = .dispensing) : SessionsSafe (exhaust im o s) := by
  obtain ⟨osc, feedback⟩ := withdrawnOutlet_keeps im s.now
    { s.out o with osc := { (s.out o).osc with state := .exhausted, exhaustedFlag := true } }
  rw [exhaust_eq]
  exact (h.moves (by rw [was]; rfl) (was ▸ nofun) (f := exhaustsOff im s.now) (by rw [exhaustsOff, osc]; rfl)
    (by rw [exhaustsOff, osc]; rfl) feedback).steady (((steady_raise _ _).trans (steady_raise _ _)).trans (steady_settleRises _))

theorem SessionsSafe.replaceDemand (d f : Nat) : SessionsSafe (replaceDemand o d f s) :=
  h.steady (steady_modOut s o ⟨rfl, id, .refl _⟩)

theorem SessionsSafe.takeDemand {d f : Nat} {t : State} (taken : takeDemand o d f s = some t) : SessionsSafe t := by
  unfold Machine.takeDemand at taken
  split at taken
  case h_4 dwelling =>
    obtain rfl := Option.some.inj taken
    split
    · rw [setSession, Machine.replaceDemand, modOut_modOut]
      exact (h.moves (by rw [dwelling]; rfl) (dwelling ▸ nofun) rfl rfl rfl).steady (steady_raise _ _)
    · exact h.replaceDemand d f
  all_goals cases taken
  all_goals exact h.replaceDemand d f

theorem SessionsSafe.takeComplete {t : State} (taken : takeComplete im o s = some t) : SessionsSafe t := by
  unfold Machine.takeComplete at taken
  split at taken <;> rename_i state <;> cases taken
  · exact h.enterDwell (by rw [state]; rfl) (state ▸ nofun)
  · exact h.enterDwell (by rw [state]; rfl) (state ▸ nofun)
  · exact h.replaceDemand 0 0

end

/-- An outlet without a drive and outside a close has no timer (R97, R101, R114). -/
theorem OutletDrive.contactor_undriven {u : OutletState} (h : OutletDrive u) (opened : u.osc.driveClosed = false)
    (starting : u.osc.state ≠ .starting) (closing : u.osc.state ≠ .closing) : contactor u.osc = (false, none, none, none, none) := by
  rw [contactor, opened, h.closePhase_none closing, h.startTimer_none starting, h.mismatchTimer_none opened,
    h.closeTimer_none closing]

/-- The head of the settle-wait order, taken from it, with its record in the queue (R117). -/
def headServed (o : Outlet) (rest : List Outlet) (s : State) : State :=
  match (s.out o).heldRecord with
  | some r => enterQueue r { s with stu.settleWait := rest }
  | none => { s with stu.settleWait := rest }

theorem serveSettleWait_cons {s : State} {o : Outlet} {rest : List Outlet} (order : s.stu.settleWait = o :: rest) :
    serveSettleWait s =
      clearGrants o (setSession o .idle ((headServed o rest s).modOut o fun u => { u with heldRecord := none })) := by
  unfold serveSettleWait
  rw [order]
  rfl

theorem headServed_keeps (o : Outlet) (rest : List Outlet) (s : State) :
    (headServed o rest s).stu.settleWait = rest ∧ ∀ x, (headServed o rest s).out x = s.out x := by
  unfold headServed
  split
  · rw [enterQueue_keeps]
    exact ⟨rfl, fun x => by cases x <;> rfl⟩
  · exact ⟨rfl, fun x => by cases x <;> rfl⟩

theorem eq_otherOutlet {x o : Outlet} (apart : x ≠ o) : x = otherOutlet o := by
  cases x <;> cases o
  exacts [absurd rfl apart, rfl, rfl, absurd rfl apart]

/-- The outlet at the head of the settle-wait order becomes IDLE and leaves the order (R117). -/
theorem SessionsSafe.serveSettleWait {s : State} (h : SessionsSafe s) : SessionsSafe (serveSettleWait s) := by
  obtain ⟨drives, once, waits⟩ := sessionsSafe_iff.mp h
  cases order : s.stu.settleWait with
  | nil => rw [Machine.serveSettleWait, order]; exact h
  | cons o rest =>
    rw [order] at once waits
    obtain ⟨out_of_rest, once⟩ := List.nodup_cons.mp once
    have waiting : (s.out o).osc.state = .settleWait := (waits o).mp List.mem_cons_self
    have drive := drives o
    have opened : (s.out o).osc.driveClosed = false := by rw [drive.drive_eq, driveOf, waiting]
    obtain ⟨settleWait, out⟩ := headServed_keeps o rest s
    obtain ⟨station, other, -⟩ :=
      clearGrants_keeps o (setSession o .idle ((headServed o rest s).modOut o fun u => { u with heldRecord := none }))
    rw [← serveSettleWait_cons order] at station other
    rw [out_setSession_other, out_modOut_other, out] at other
    have own : ((Machine.serveSettleWait s).out o).osc = { (s.out o).osc with state := .idle } := by
      rw [serveSettleWait_cons order, clearGrants_out, setSession_out, out_modOut, out]
    have left : (Machine.serveSettleWait s).stu.settleWait = rest := by
      rw [station, setSession_stu, modOut_stu, settleWait]
    have others : ∀ x, x ≠ o → (Machine.serveSettleWait s).out x = s.out x := fun x apart => by
      obtain rfl : x = otherOutlet o := eq_otherOutlet apart
      exact other
    refine sessionsSafe_iff.mpr ⟨fun x => ?_, left ▸ once, fun x => ?_⟩ <;> by_cases same : x = o
    · subst x
      refine outletDrive_of_undriven (.inl (by rw [own])) ?_
      rw [own]
      exact drive.contactor_undriven opened (waiting ▸ nofun) (waiting ▸ nofun)
    · rw [others x same]; exact drives x
    · subst x; rw [left, own]; exact iff_of_false out_of_rest nofun
    · rw [others x same, ← waits, left]; exact (List.mem_cons.trans (or_iff_right same)).symm

end Sys2Proof.Machine
end

section
/-! PROOF. The contactors and the settle-wait order at every step (R96 to R98, R117), row by row. -/

namespace Sys2Proof.Machine

-- The gates of the rows.

theorem steady_hostAny (c : Instr) {f : State → State} (h : ∀ u, Steady u (f u)) (s : State) : Steady s (hostAny c f s) := by
  have taken := (steady_finishCaptured c s).trans (h _)
  unfold hostAny
  split
  · exact steady_hpt s _
  · exact taken
  · split
    · exact steady_hpt s _
    · exact taken

theorem steady_hostRunning (c : Instr) (code : Nat) {f : Image → State → State} (h : ∀ im u, Steady u (f im u)) (s : State) :
    Steady s (hostRunning c code f s) := by
  have finished := steady_finishCaptured c s
  unfold hostRunning
  split
  · exact steady_hpt s _
  · exact finished.trans (steady_refuse _ _ _)
  · split
    · exact steady_hpt s _
    · exact finished.trans (h _ _)

section
variable {s : State} (h : SessionsSafe s)
include h

theorem SessionsSafe.hostRunning (c : Instr) (code : Nat) {f : Image → State → State}
    (k : ∀ im u, SessionsSafe u → SessionsSafe (f im u)) : SessionsSafe (hostRunning c code f s) := by
  have finished := h.steady (steady_finishCaptured c s)
  unfold Machine.hostRunning
  split
  · exact h.steady (steady_hpt s _)
  · exact finished.steady (steady_refuse _ _ _)
  · split
    · exact h.steady (steady_hpt s _)
    · exact k _ _ finished

theorem SessionsSafe.whenRunning {f : Image → State} (k : ∀ im, SessionsSafe (f im)) : SessionsSafe (whenRunning s f) := by
  unfold Machine.whenRunning
  split
  · exact k _
  · exact h
  · exact h

theorem SessionsSafe.whenFitted {o : Outlet} {f : Image → State} (k : ∀ im, SessionsSafe (f im)) : SessionsSafe (whenFitted s o f) :=
  h.whenRunning fun im => by
    split
    · exact k im
    · exact h

theorem SessionsSafe.ite {p : Prop} [Decidable p] {t : State} (k : p → SessionsSafe t) : SessionsSafe (if p then t else s) := by
  split
  · exact k ‹_›
  · exact h

theorem SessionsSafe.ite_not {p : Prop} [Decidable p] {t : State} (k : SessionsSafe t) : SessionsSafe (if p then s else t) := by
  split
  · exact h
  · exact k

theorem SessionsSafe.respond (x : Status) (code : Nat) (p : List Byte) : SessionsSafe (respond x code p s) :=
  h.steady (steady_respond x code p s)

theorem SessionsSafe.refuse (x : Status) (code : Nat) : SessionsSafe (refuse x code s) := h.steady (steady_refuse x code s)

theorem SessionsSafe.slc (x : Slc) : SessionsSafe { s with slc := x } := h.steady (steady_slc s x)

theorem SessionsSafe.triggered (im : Image) (before : State) : SessionsSafe (triggered im before s) :=
  h.steady (steady_triggered im before s)

theorem SessionsSafe.outletEvent (im : Image) (before : State) : SessionsSafe (outletEvent im before s) :=
  h.steady (steady_outletEvent im before s)

/-- A change at an outlet outside its session, its contactor and FEEDBACK. -/
theorem SessionsSafe.at_outlet (o : Outlet) {f : OutletState → OutletState} (osc : (f (s.out o)).osc = (s.out o).osc)
    (feedback : (f (s.out o)).feedback = (s.out o).feedback) : SessionsSafe (s.modOut o f) := h.steady (steady_at osc feedback)

end

-- The rows that answer (spec/09).

/-- The rows that answer, or that end a transaction, and leave both outlets and the settlements alone. -/
def onlyAnswers : Instr → Bool
  | .pending | .chipSelectRise _ | .unknownCommand _ | .nop | .status | .lineStatus | .setClock _ _ | .outletStatus _ => true
  | .rosterRead _ | .tariffLoad _ _ | .tariffSelect _ | .tariffRead _ | .recordPeek | .events _ | .eventEnable _ => true
  | _ => false

theorem steady_tru (s : State) (x : Tru) : Steady s { s with tru := x } := .of_outlets rfl rfl rfl

theorem steady_onlyAnswers {c : Instr} (k : onlyAnswers c = true) {s t : State} (e : exec c s = .next t) : Steady s t := by
  have loaded : ∀ (x : Tru) (code : Nat) (p : List Byte) (u : State), Steady u (respond .ok code p { u with tru := x }) :=
    fun x code p u => (steady_tru u x).trans (steady_respond _ code p _)
  cases c with
  | pending =>
    simp only [exec, execPending] at e
    split at e <;> cases e
    · exact steady_hpt s _
    · exact .refl s
  | chipSelectRise bytes =>
    cases e
    split
    · exact .of_outlets rfl rfl rfl
    split <;> exact steady_hpt s _
  | unknownCommand bytes =>
    simp only [exec, execUnknownCommand] at e
    split at e <;> cases e
    · exact .refl s
    · refine steady_hostAny _ (fun u => ?_) s
      split
      · exact steady_refuse _ _ u
      · exact .refl u
  | nop => cases e; exact steady_hostAny _ (fun u => steady_respond _ _ _ u) s
  | status => cases e; exact steady_hostAny _ (fun u => steady_respond _ _ _ u) s
  | events clear =>
    cases e
    refine steady_hostAny _ (fun u => ?_) s
    split
    · exact steady_refuse _ _ u
    · exact steady_hpt u _
  | lineStatus => cases e; exact steady_hostRunning _ _ (fun _ u => steady_respond _ _ _ u) s
  | eventEnable enable =>
    cases e
    refine steady_hostRunning _ _ (fun _ u => ?_) s
    split
    · exact steady_refuse _ _ u
    · exact steady_hpt u _
  | setClock minute seconds =>
    cases e
    refine steady_hostRunning _ _ (fun _ u => ?_) s
    split
    · exact steady_refuse _ _ u
    · exact loaded _ _ _ u
  | tariffLoad bank image =>
    cases e
    refine steady_hostRunning _ _ (fun _ u => ?_) s
    split
    · exact steady_refuse _ _ u
    split
    · exact steady_refuse _ _ u
    split
    · exact loaded _ _ _ u
    · exact steady_refuse _ _ u
  | tariffSelect bank =>
    cases e
    refine steady_hostRunning _ _ (fun _ u => ?_) s
    split
    · exact steady_refuse _ _ u
    split
    · exact loaded _ _ _ u
    · exact steady_refuse _ _ u
  | outletStatus | rosterRead | tariffRead | recordPeek =>
    cases e
    refine steady_hostRunning _ _ (fun _ u => ?_) s
    split
    · exact steady_refuse _ _ u
    · exact steady_respond _ _ _ u
  | _ => cases k

-- What the rows are made of, where it changes no session.

theorem OutletDrive.stopMismatch {u : OutletState} (k : OutletDrive u) : OutletDrive { u with osc.mismatchTimer := none } := by
  obtain ⟨drive, phase, -, start, close⟩ := k
  exact ⟨drive, phase, nofun, start, close⟩

theorem OutletDrive.stopStart {u : OutletState} (k : OutletDrive u) : OutletDrive { u with osc.startTimer := none } := by
  obtain ⟨drive, phase, mismatch, -, close⟩ := k
  exact ⟨drive, phase, mismatch, nofun, close⟩

theorem OutletDrive.feedbackShut {u : OutletState} (k : OutletDrive u) : OutletDrive (feedbackShut u) := by
  obtain ⟨drive, phase, -, start, close⟩ := k
  exact ⟨drive, phase, nofun, start, close⟩

theorem driveOf_openWait {c : Osc} (closing : c.state = .closing) (phase : c.closePhase = some .openWait) : driveOf c = false := by
  rw [driveOf, closing, phase]; rfl

theorem steady_accruePulse (im : Image) (o : Outlet) (p : Priced) (s : State) : Steady s (accruePulse im o p s) := by
  have looked : Steady s (noteLookup o p s) := by
    unfold noteLookup
    dsimp only
    split
    · exact (steady_at rfl rfl).trans (steady_raise _ _)
    · exact steady_at rfl rfl
  rw [accruePulse]
  exact looked.trans (steady_at rfl rfl)

theorem steady_finishRoster (im : Image) (before s : State) : Steady s (finishRoster im before s) := by
  have noted := (rosterOnly_evaluateMode im s).steady.trans (steady_noteUpdate im (announced im before) _)
  unfold finishRoster
  dsimp only
  split
  · exact noted.trans (steady_computation im _)
  · exact noted

theorem steady_tickCause (s : State) : Steady s (tickCause s) := by
  unfold tickCause
  split
  · split <;> exact .of_outlets rfl rfl rfl
  · exact .refl s

/-- The filters of an outlet start with FEEDBACK open (R95). -/
theorem steady_filters (s : State) (t : State) (stu : t.stu = s.stu) (out : ∀ o, t.out o = startFilters (s.out o)) : Steady s t :=
  ⟨by rw [stu], fun o => by rw [out]; exact ⟨rfl, nofun, .refl _⟩⟩

theorem steady_firstWord (im : Image) (o : Outlet) (s : State) : Steady s (firstWord im o s) := by
  unfold firstWord
  split
  · exact steady_at rfl rfl
  · exact .refl s

theorem steady_enterRunning (im : Image) (s : State) : Steady s (enterRunning im s) := by
  have words : ∀ u, Steady u (firstWord im .b (firstWord im .a (computation im u))) := fun u =>
    ((steady_computation im u).trans (steady_firstWord im .a _)).trans (steady_firstWord im .b _)
  have started : Steady s (raise .restart
      { s with
        configured := .running im, slc.slot := .due .announce, slc.shareTick := s.timerIn im.sharePeriod, prs := Prs.start im
        eStop := startFilter false s.eStop, outA := startFilters s.outA, outB := startFilters s.outB }) :=
    steady_filters s _ rfl fun o => by cases o <;> rfl
  unfold enterRunning
  dsimp only
  split
  · exact started.trans (words _)
  · exact started.trans ((steady_at (o := .b) rfl rfl).trans (words _))

theorem sessionsSafe_powerOnState (s : State) : SessionsSafe (powerOnState s) := by
  have reset : ∀ u, OutletDrive (resetOutlet u) := fun u => outletDrive_of_undriven (.inl rfl) rfl
  exact ⟨reset _, reset _, List.nodup_nil, fun o => by cases o <;> exact ⟨nofun, nofun⟩⟩

theorem sessionsSafe_reinitialise (s : State) : SessionsSafe (reinitialise s) := by
  have reset : ∀ u, OutletDrive (restartOutlet u) := fun u => outletDrive_of_undriven (.inl rfl) rfl
  exact ⟨reset _, reset _, List.nodup_nil, fun o => by cases o <;> exact ⟨nofun, nofun⟩⟩

-- The commands of a session (R99, R102, R112, R177).

section
variable {s t : State} (h : SessionsSafe s)
include h

theorem SessionsSafe.openSession {outlet tier : Byte} {reference hold : BitVec 32} {demand floor : BitVec 16}
    (e : exec (.openSession outlet reference hold tier demand floor) s = .next t) : SessionsSafe t := by
  cases e
  refine h.hostRunning _ _ fun im u safe => ?_
  split
  · exact safe.refuse _ _
  split
  · exact safe.refuse _ _
  · rename_i accepted
    have idle := idle_of_openRefusal (Option.or_eq_none_iff.mp accepted).2
    exact ((safe.acceptOpen idle _).triggered im u).respond _ _ _

theorem SessionsSafe.demandTaken (im : Image) (d f : Nat) {after : Option State} (k : ∀ t, after = some t → SessionsSafe t) :
    SessionsSafe (demandTaken im s d f after) := by
  unfold Machine.demandTaken
  split
  · exact h.refuse _ _
  · exact ((k _ rfl).triggered im s).respond _ _ _

theorem SessionsSafe.setDemand {outlet complete : Byte} {demand floor : BitVec 16}
    (e : exec (.setDemand outlet demand floor complete) s = .next t) : SessionsSafe t := by
  cases e
  refine h.hostRunning _ _ fun im u safe => ?_
  split
  · exact safe.refuse _ _
  split
  · exact safe.refuse _ _
  split
  · exact safe.demandTaken im 0 0 fun t taken => safe.takeComplete taken
  · exact safe.demandTaken im _ _ fun t taken => safe.takeDemand taken

theorem SessionsSafe.closeSession {outlet : Byte} (e : exec (.closeSession outlet) s = .next t) : SessionsSafe t := by
  cases e
  refine h.hostRunning _ _ fun im u safe => ?_
  split
  · exact safe.refuse _ _
  split
  · exact safe.refuse _ _
  split
  · exact ((safe.acceptClose ‹_›).triggered im u).respond _ _ _
  · exact safe.refuse _ _

theorem SessionsSafe.recordRelease (e : exec .recordRelease s = .next t) : SessionsSafe t := by
  cases e
  refine h.hostRunning _ _ fun im u safe => ?_
  split
  · exact safe.refuse _ _
  · rename_i rest _
    have released : SessionsSafe { u with stu.queue := rest } := safe
    exact (released.serveSettleWait.outletEvent im u).respond _ _ _

-- The rows of the grants (spec/04).

theorem SessionsSafe.riseHoldExpiry (e : exec .riseHoldExpiry s = .next t) : SessionsSafe t := by
  cases e
  refine h.whenRunning fun im => h.ite fun _ => ?_
  have stopped : SessionsSafe { s with grl.riseHold := none } := h
  dsimp only
  split
  · exact stopped.steady ((steady_of_eventAt fun o => eventAt_evaluateRises im o _).trans (steady_noteUpdate im _ _))
  · exact stopped

theorem SessionsSafe.confirmation {o : Outlet} (e : exec (.confirmation o) s = .next t) : SessionsSafe t := by
  cases e
  refine h.whenFitted fun im => h.ite_not ?_
  have high : SessionsSafe (s.modOut o settledHigh) := h.at_outlet o rfl rfl
  have lowered : Steady (s.modOut o settledHigh) (confirmDecrease im o (s.modOut o settledHigh)) :=
    ((steady_at rfl rfl).trans (steady_noteUpdate im _ _)).trans (steady_releaseRises im _)
  dsimp only
  split
  · exact (high.steady lowered).reportOutput.outletEvent im s
  · exact high

theorem SessionsSafe.parkHoldExpiry {o : Outlet} (e : exec (.parkHoldExpiry o) s = .next t) : SessionsSafe t := by
  cases e
  refine h.whenFitted fun im => ?_
  split
  · exact h.at_outlet o rfl rfl
  · exact h
  · exact h

-- The rows of the outlets' inputs and timers (spec/05).

theorem SessionsSafe.eStopAsserted (e : exec .eStopAsserted s = .next t) : SessionsSafe t := by
  cases e
  have asserted : SessionsSafe { s with eStop := recognise true s.eStop } := h
  exact h.whenRunning fun im => h.ite_not ((asserted.tripBoth im).outletEvent im s)

theorem SessionsSafe.holdChange {o : Outlet} {released : Bool} (e : exec (.holdChange o released) s = .next t) : SessionsSafe t := by
  cases e
  exact h.whenFitted fun im => h.ite_not (((h.at_outlet o rfl rfl).testStart o).outletEvent im s)

theorem SessionsSafe.faultAsserted {o : Outlet} (e : exec (.faultAsserted o) s = .next t) : SessionsSafe t := by
  cases e
  exact h.whenFitted fun im => h.ite_not (((h.at_outlet o rfl rfl).trip im o _).outletEvent im s)

theorem SessionsSafe.feedbackClosed {o : Outlet} (e : exec (.feedbackClosed o) s = .next t) : SessionsSafe t := by
  cases e
  exact h.whenFitted fun im => h.ite_not (((h.modOut o (h.drive o).feedbackShut .rfl).testStart o).outletEvent im s)

theorem SessionsSafe.feedbackOpen {o : Outlet} (e : exec (.feedbackOpen o) s = .next t) : SessionsSafe t := by
  cases e
  refine h.whenFitted fun im => h.ite fun _ => ?_
  have opened : SessionsSafe (s.modOut o fun u => { u with feedback := recognise false u.feedback }) :=
    h.steady (steady_modOut s o ⟨rfl, nofun, .refl _⟩)
  exact (opened.feedbackOpened (by rw [out_modOut]; rfl)).outletEvent im s

theorem SessionsSafe.mismatchTimerExpiry {o : Outlet} (e : exec (.mismatchTimerExpiry o) s = .next t) : SessionsSafe t := by
  cases e
  exact h.whenFitted fun im => h.ite fun _ => (h.modOut o (h.drive o).stopMismatch .rfl).tripEvent im o _

theorem SessionsSafe.startTimerExpiry {o : Outlet} (e : exec (.startTimerExpiry o) s = .next t) : SessionsSafe t := by
  cases e
  exact h.whenFitted fun im => h.ite fun _ => (h.modOut o (h.drive o).stopStart .rfl).tripEvent im o _

theorem SessionsSafe.confirmTimeout {o : Outlet} (e : exec (.confirmTimeout o) s = .next t) : SessionsSafe t := by
  cases e
  exact h.whenFitted fun im => h.ite fun _ => (h.at_outlet o rfl rfl).tripEvent im o _

theorem SessionsSafe.closeTimerExpiry {o : Outlet} (e : exec (.closeTimerExpiry o) s = .next t) : SessionsSafe t := by
  cases e
  refine h.whenFitted fun im => h.ite fun ⟨_, waits⟩ => ?_
  obtain ⟨closing, phase⟩ := inOpenWait_iff.mp waits
  have forced : SessionsSafe (s.modOut o fun u => { u with osc.forcedOpen := true }) :=
    h.steady (steady_modOut s o ⟨rfl, id, .refl _⟩)
  refine (forced.completeClose ?_ ?_).outletEvent im s <;> rw [out_modOut]
  · exact closing
  · rw [← driveOf_openWait closing phase]; exact (h.drive o).drive_eq

-- The rows of the meter and the dwell minute (spec/06, spec/08).

theorem SessionsSafe.captureInterval (im : Image) (o : Outlet) : SessionsSafe (captureInterval im o s) := by
  unfold Machine.captureInterval
  split
  · exact h
  · exact h.at_outlet o rfl rfl
  · exact h.at_outlet o rfl rfl
  · have taken : SessionsSafe (s.modOut o fun u => { u with mtf := takeEstimate im (max 1 u.mtf.counter) u.mtf }) :=
      h.at_outlet o rfl rfl
    unfold testOverDraw
    dsimp only
    split
    · exact (taken.at_outlet o rfl rfl).tripEvent im o _
    · exact taken.at_outlet o rfl rfl

theorem SessionsSafe.billPulse (im : Image) (o : Outlet) : SessionsSafe (billPulse im o s) := by
  have accrued := h.steady (steady_accruePulse im o (priceAt im s o) s)
  refine SessionsSafe.captureInterval (SessionsSafe.outletEvent ?_ im _) im o
  unfold checkCredit
  exact accrued.ite fun reached => accrued.exhaust reached.1

theorem SessionsSafe.meterPulse {o : Outlet} (e : exec (.meterPulse o) s = .next t) : SessionsSafe t := by
  cases e
  refine h.whenFitted fun im => h.ite_not ?_
  have active : SessionsSafe (s.modOut o fun u => { u with mtf.pulse := recognise true u.mtf.pulse }) := h.at_outlet o rfl rfl
  dsimp only
  split
  · exact active.billPulse im o
  · exact (active.at_outlet o rfl rfl).steady (steady_raise _ _)

theorem SessionsSafe.dwellMinute {o : Outlet} (e : exec (.dwellMinute o) s = .next t) : SessionsSafe t := by
  cases e
  refine h.whenFitted fun im => h.ite fun _ => ?_
  have charged : ∀ r : Accounts × Nat, SessionsSafe (s.modOut o fun u => { u with acc := r.1 }) := fun r => h.at_outlet o rfl rfl
  exact charged _

-- The rows of the line and the roster (spec/01, spec/02).

theorem SessionsSafe.leaveCheck : SessionsSafe (leaveCheck s) := by
  rcases leaveCheck_cases s with ⟨ends, -⟩ | same
  · rw [ends]; exact sessionsSafe_reinitialise s
  · rw [same]; exact h

theorem SessionsSafe.finishRoster (im : Image) (before : State) : SessionsSafe (finishRoster im before s) :=
  h.steady (steady_finishRoster im before s)

theorem SessionsSafe.conflictFrame (im : Image) : SessionsSafe (conflictFrame im s) := by
  have barred : SessionsSafe (barTransmitter s) := h
  unfold Machine.conflictFrame
  refine SessionsSafe.leaveCheck ?_
  split
  · exact barred
  · exact barred.finishRoster im s

theorem SessionsSafe.judgeFrame {im : Image} {bytes : List Byte} {mark malformed : Bool} {deliver : State → State}
    (k : ∀ u, Steady u (deliver u)) : SessionsSafe (judgeFrame im bytes mark malformed deliver s) := by
  rcases judgeFrame_cases im bytes mark malformed deliver s with e | ⟨-, e | e | ⟨-, -, e⟩⟩ <;> rw [e]
  · exact h
  · exact h.slc _
  · exact h.conflictFrame im
  · exact (h.slc _).steady (k _)

theorem SessionsSafe.restart (e : exec .restart s = .next t) : SessionsSafe t := by
  cases e
  refine h.hostRunning _ _ fun im u safe => ?_
  split
  · unfold beginLeave
    split
    · exact (safe.respond .ok 0x12 []).slc _
    · exact sessionsSafe_reinitialise _
  · exact safe.refuse _ _

/-- The rows of the share line and of the roster. -/
def onTheLine : Instr → Bool
  | .leaveTimerExpiry | .sharePeriodTick | .quarterPeriodMark | .attemptStart | .arbitrationLoss | .bitError => true
  | .restTimerExpiry | .ownFrameCompletion _ | .stuffViolation | .announceReceived _ _ | .leaveReceived _ _ => true
  | .lineIdle | .frameStartBit => true
  | _ => false

theorem SessionsSafe.onTheLine {c : Instr} (k : onTheLine c = true) (e : exec c s = .next t) : SessionsSafe t := by
  cases c with
  | leaveTimerExpiry => cases e; exact h.whenRunning fun im => h.ite fun _ => (h.slc _).leaveCheck
  | sharePeriodTick =>
    cases e
    refine h.whenRunning fun im => ?_
    rw [tickRoster_eq]
    exact ((h.slc _).steady ((steady_tickCause _).trans (rosterOnly_rosterTicked im _).steady)).steady
      (((rosterOnly_evaluateMode im _).steady.trans (steady_noteUpdate im _ _)).trans (steady_computation im _))
  | quarterPeriodMark =>
    cases e
    refine h.whenRunning fun im => ?_
    split
    · exact h.slc _
    all_goals exact h
  | attemptStart =>
    cases e
    refine h.whenRunning fun im => ?_
    split
    · exact h.ite fun _ => h.slc _
    all_goals exact h
  | arbitrationLoss =>
    cases e
    refine h.whenRunning fun im => ?_
    split
    · exact (h.slc _).leaveCheck
    all_goals exact h
  | bitError =>
    cases e
    refine h.whenRunning fun im => ?_
    split
    · refine SessionsSafe.slc (SessionsSafe.leaveCheck ?_) _
      split
      · exact SessionsSafe.finishRoster (s := startRest (abortFrame _ s)) h im s
      · exact h.slc _
    all_goals exact h
  | restTimerExpiry =>
    cases e
    exact h.whenRunning fun im => h.ite fun _ => (h.slc _).finishRoster im s
  | ownFrameCompletion acknowledged =>
    cases e
    refine h.whenRunning fun im => ?_
    split
    · refine SessionsSafe.slc ?_ _
      unfold reportCompletion
      split
      · exact SessionsSafe.finishRoster (s := { completeFrame s with prs.ackSilence := 0 }) h im _
      · exact h.slc _
    · exact sessionsSafe_reinitialise _
    all_goals exact h
  | stuffViolation => cases e; exact h.whenRunning fun im => h.ite fun _ => h.slc _
  | announceReceived frame mark =>
    cases e
    refine h.whenRunning fun im => ?_
    dsimp only
    split
    · exact h.judgeFrame fun u => .refl u
    · exact h.judgeFrame fun u => (rosterOnly_announceHeard im _ _ _ u).steady.trans (steady_finishRoster im u _)
  | leaveReceived frame mark =>
    cases e
    exact h.whenRunning fun im => h.judgeFrame fun u => (rosterOnly_leaveHeard im _ u).steady.trans (steady_finishRoster im u _)
  | lineIdle => cases e; exact h.ite_not (h.slc _)
  | frameStartBit => cases e; exact h.ite fun _ => (h.slc _).whenRunning fun _ => h.slc _
  | _ => cases k

-- The rows of the start-up (spec/10).

theorem SessionsSafe.startsUp {c : Instr} (k : startsUp c = true) (e : exec c s = .next t) : SessionsSafe t := by
  cases c with
  | powerOn => cases e; exact (sessionsSafe_powerOnState s).ite_not (sessionsSafe_powerOnState s)
  | resetLineAsserted => cases e; exact sessionsSafe_powerOnState s
  | resetLineReleased =>
    simp only [exec, execResetLineReleased] at e
    split at e <;> cases e <;> exact h
  | configurationReadEnd result =>
    simp only [exec, execConfigurationReadEnd] at e
    split at e
    · split at e
      · cases e; exact h
      · split at e <;> cases e
        · exact h.steady (steady_enterRunning _ s)
        · exact h
    all_goals cases e; exact h
  | passTimeout =>
    simp only [exec, execPassTimeout] at e
    split at e <;> cases e <;> exact h
  | configure image =>
    cases e
    refine h.steady (steady_hostAny _ (fun u => ?_) s)
    split
    · exact steady_refuse _ _ u
    · exact .refl u
    · split
      · exact steady_refuse _ _ u
      · exact (steady_enterRunning _ u).trans (steady_respond _ _ _ _)
  | _ => cases k

/-- Every row keeps the drives and the settle-wait order. -/
theorem SessionsSafe.exec (c : Instr) (e : Machine.exec c s = .next t) : SessionsSafe t := by
  by_cases answers : onlyAnswers c = true
  · exact h.steady (steady_onlyAnswers answers e)
  by_cases line : Machine.onTheLine c = true
  · exact h.onTheLine line e
  by_cases start : Machine.startsUp c = true
  · exact h.startsUp start e
  cases c with
  | openSession => exact h.openSession e
  | setDemand => exact h.setDemand e
  | closeSession => exact h.closeSession e
  | recordRelease => exact h.recordRelease e
  | restart => exact h.restart e
  | riseHoldExpiry => exact h.riseHoldExpiry e
  | setpointWordEnd o => cases e; exact h.whenFitted fun _ => h.ite fun _ => h.at_outlet o rfl rfl
  | confirmation => exact h.confirmation e
  | confirmTimeout => exact h.confirmTimeout e
  | parkHoldExpiry => exact h.parkHoldExpiry e
  | eStopAsserted => exact h.eStopAsserted e
  | eStopReleased => cases e; exact h.whenRunning fun _ => h.ite fun _ => h
  | holdChange => exact h.holdChange e
  | faultAsserted => exact h.faultAsserted e
  | faultReleased o => cases e; exact h.whenFitted fun _ => h.ite fun _ => h.at_outlet o rfl rfl
  | feedbackClosed => exact h.feedbackClosed e
  | feedbackOpen => exact h.feedbackOpen e
  | mismatchTimerExpiry => exact h.mismatchTimerExpiry e
  | startTimerExpiry => exact h.startTimerExpiry e
  | closeTimerExpiry => exact h.closeTimerExpiry e
  | meterPulse => exact h.meterPulse e
  | noFlow o => cases e; exact h.whenFitted fun _ => h.ite fun _ => h.at_outlet o rfl rfl
  | dwellMinute => exact h.dwellMinute e
  | settledRecognisedLow o => cases e; exact h.whenFitted fun _ => h.ite fun _ => h.at_outlet o rfl rfl
  | pulseRecognisedInactive o => cases e; exact h.whenFitted fun _ => h.ite fun _ => h.at_outlet o rfl rfl
  | tariffClockAdvance => cases e; exact h
  | powerOn | resetLineAsserted | resetLineReleased | configurationReadEnd | passTimeout | configure => exact absurd rfl start
  | pending | chipSelectRise | unknownCommand | nop | status | lineStatus | setClock | outletStatus => exact absurd rfl answers
  | rosterRead | tariffLoad | tariffSelect | tariffRead | recordPeek | events | eventEnable => exact absurd rfl answers
  | _ => exact absurd rfl line

end

theorem level_sampleFilter (depth : Nat) (f : Filter) : (sampleFilter depth f).level = f.level := by
  unfold sampleFilter
  split
  · rfl
  split <;> rfl

/-- 0.1 ms samples the inputs, which recognises no level, and counts (R93, R94). -/
theorem steady_advance (s : State) : Steady s (advance s) := by
  by_cases running : ∃ im, s.configured = .running im
  · obtain ⟨im, r⟩ := running
    refine ⟨by rw [(advance_station r).1], fun o => ?_⟩
    obtain ⟨d, outlet⟩ := advance_out r o
    rw [outlet]
    split
    · split
      · obtain ⟨_, _, counted, -⟩ := countOutlet_spec (sampleOutlet im (tenthOutlet im (s.out o))) d
        rw [counted]
        exact ⟨rfl, fun closed => (level_sampleFilter im.filterDepth (s.out o).feedback).symm.trans closed, .refl _⟩
      · exact ⟨rfl, id, .refl _⟩
    · exact .refl _
  · rw [advance_not_running fun im r => running ⟨im, r⟩]
    exact .of_outlets rfl rfl rfl

/-- Settles O8: the rows that change no session leave the contactors steady, and each change of session ends with the drive and the timers
of its new state. -/
theorem drivesFollowTheStates : Obligations.DrivesFollowTheStates := fun _ _ safe e =>
  step_keeps (fun c _ _ h => h.exec c) (fun s h => h.steady (steady_advance s)) (fun _ _ _ h => h) safe e

end Sys2Proof.Machine
end

section
/-! PROOF. Levels recognised released and inactive (R94, R109, R110, R121), and the start condition with its two inputs (R97, R101). -/

namespace Sys2Proof.Machine

section
variable {im : Image} {s : State} {o : Outlet} (r : s.configured = .running im) (fits : fitted im o = true)
include r fits

theorem exec_faultReleased (high : (s.out o).fault.level = true) :
    exec (.faultReleased o) s = .next (s.modOut o fun y => { y with fault := ⟨false, false, 0⟩ }) := by
  rw [exec, execFaultReleased, whenFitted_running r fits, if_pos high]; rfl

theorem exec_settledRecognisedLow (high : (s.out o).settled.level = true) :
    exec (.settledRecognisedLow o) s = .next (s.modOut o fun y => { y with settled := ⟨false, false, 0⟩ }) := by
  rw [exec, execSettledRecognisedLow, whenFitted_running r fits, if_pos high]; rfl

theorem exec_pulseRecognisedInactive (active : (s.out o).mtf.pulse.level = true) :
    exec (.pulseRecognisedInactive o) s = .next (s.modOut o fun y => { y with mtf.pulse := ⟨false, false, 0⟩ }) := by
  rw [exec, execPulseRecognisedInactive, whenFitted_running r fits, if_pos active]; rfl

theorem exec_holdChange {released : Bool} (differs : (s.out o).hold.level = released) :
    exec (.holdChange o released) s =
      .next (outletEvent im s (testStart o (s.modOut o fun u => { u with hold := ⟨!released, !released, 0⟩ }))) := by
  rw [exec, execHoldChange, whenFitted_running r fits, if_neg (by rw [differs]; cases released <;> nofun)]; rfl

theorem exec_feedbackClosed (opened : (s.out o).feedback.level = false) :
    exec (.feedbackClosed o) s = .next (outletEvent im s (testStart o (s.modOut o feedbackShut))) := by
  rw [exec, execFeedbackClosed, whenFitted_running r fits, if_neg (Bool.eq_false_iff.mp opened)]

end

theorem exec_eStopReleased {im : Image} {s : State} (r : s.configured = .running im) (asserted : s.eStop.level = true) :
    exec .eStopReleased s = .next { s with eStop := ⟨false, false, 0⟩ } := by
  rw [exec, execEStopReleased, whenRunning_running r, if_pos asserted]; rfl

/-- Settles O33: none of the four rows looks at anything but its level. -/
theorem releasedLevelsChangeNothingElse : Obligations.ReleasedLevelsChangeNothingElse := fun _ _ _ r fits =>
  ⟨exec_eStopReleased r, exec_faultReleased r fits, exec_settledRecognisedLow r fits, exec_pulseRecognisedInactive r fits⟩

-- The start condition (R101).

theorem startCondition_iff {u : OutletState} :
    startCondition u = true ↔ u.osc.state = .starting ∧ u.feedback.level = true ∧ u.hold.level = false := by
  simp only [startCondition, Bool.and_eq_true, beq_iff_eq, Bool.not_eq_true', and_assoc]

/-- The outlet as the start condition leaves it (R101). -/
def startsOff (u : OutletState) : OutletState := { u with osc := { u.osc with state := .dispensing, startTimer := none } }

theorem testStart_holds {o : Outlet} {s : State} (starts : startCondition (s.out o) = true) :
    testStart o s = raise (changeFlag o) (s.modOut o startsOff) := by
  rw [testStart, if_pos starts, setSession, modOut_modOut]; rfl

theorem shared_raise (f : EventFlag) (s : State) : Shared s (raise f s) := ⟨rfl, .refl _, .refl _, flagsKept_raise f s⟩

section
variable {im : Image} {s : State} {o : Outlet} {f : OutletState → OutletState}

/-- A recognised level with which the start condition holds (R101, R46). -/
theorem testStart_event (starts : startCondition (f (s.out o)) = true) :
    Shared (s.modOut o fun u => startsOff (f u)) (outletEvent im s (testStart o (s.modOut o f))) ∧
      (outletEvent im s (testStart o (s.modOut o f))).flagSet (changeFlag o) = true := by
  have event := shared_outletEvent im s (raise (changeFlag o) (s.modOut o fun u => startsOff (f u)))
  rw [testStart_holds (by rw [out_modOut]; exact starts), modOut_modOut]
  exact ⟨(shared_raise _ _).trans event, event.2.2.2.flagSet (flagSet_raise_same _ _)⟩

/-- A recognised level without the start condition changes what it changes, and nothing follows (R101, R110). -/
theorem testStart_quiet (idle : ¬startCondition (f (s.out o)) = true) (same : (f (s.out o)).osc.state = (s.out o).osc.state)
    (quiet : announcedPart (f (s.out o)) = announcedPart (s.out o)) :
    outletEvent im s (testStart o (s.modOut o f)) = s.modOut o f := by
  rw [testStart, if_neg (by rw [out_modOut]; exact idle)]
  exact outletEvent_quiet (quiet_modOut s o f quiet) (sessions_modOut same)

end

/-- Settles O30: each of the two inputs ends in `testStart_event` or in `testStart_quiet`, by `startCondition_iff`. -/
theorem startConditionEntersDispensing : Obligations.StartConditionEntersDispensing := by
  intro im s o r fits h f started
  refine ⟨fun released => ?_, fun asserted => ⟨fun starting closed => ?_, fun other => ?_⟩,
    fun opened => ⟨fun starting released => ?_, fun other => ?_⟩⟩
  · refine (exec_holdChange r fits released).trans (congrArg _ (testStart_quiet ?_ rfl rfl))
    rw [startCondition_iff]
    exact fun ⟨_, _, low⟩ => nomatch low
  · exact ⟨_, exec_holdChange r fits asserted, testStart_event (startCondition_iff.mpr ⟨starting, closed, rfl⟩)⟩
  · refine (exec_holdChange r fits asserted).trans (congrArg _ (testStart_quiet ?_ rfl rfl))
    rw [startCondition_iff]
    rintro ⟨starting, closed, -⟩
    rcases other with other | opened
    · exact other starting
    · exact nomatch opened.symm.trans closed
  · exact ⟨_, exec_feedbackClosed r fits opened, testStart_event (startCondition_iff.mpr ⟨starting, rfl, released⟩)⟩
  · refine (exec_feedbackClosed r fits opened).trans (congrArg _ (testStart_quiet ?_ rfl rfl))
    rw [startCondition_iff]
    rintro ⟨starting, -, low⟩
    rcases other with other | asserted
    · exact other starting
    · exact nomatch asserted.symm.trans low

end Sys2Proof.Machine
end

section
/-! PROOF. OPEN SESSION (R99, R100, R185, R192): its refusals in their order, and the session that an accepted one starts. -/

namespace Sys2Proof.Machine

theorem outletOf_isSome {x : Byte} (h : x.toNat ≤ 1) : ∃ o, outletOf x = some o := by
  obtain rfl | rfl : x = 0 ∨ x = 1 := by
    rcases Nat.le_one_iff_eq_zero_or_eq_one.mp h with zero | one
    · exact .inl (BitVec.eq_of_toNat_eq zero)
    · exact .inr (BitVec.eq_of_toNat_eq one)
  · exact ⟨.a, rfl⟩
  · exact ⟨.b, rfl⟩

theorem outletOf_le {x : Byte} {o : Outlet} (h : outletOf x = some o) : x.toNat ≤ 1 := by
  by_contra above
  rw [outletOf_eq_none (Nat.lt_of_not_le above)] at h
  nomatch h

/-- The refusal of an OPEN SESSION at an outlet: the Host Port's own checks, then the conditions of R99. -/
def openAnswer (im : Image) (s : State) (o : Outlet) (hold tier : Nat) : Option Status :=
  (openCheck s hold tier).or (openRefusal im s o)

theorem openAnswer_finishCaptured (c : Instr) (im : Image) (s : State) (o : Outlet) (hold tier : Nat) :
    openAnswer im (finishCaptured c s) o hold tier = openAnswer im s o hold tier := by
  rw [finishCaptured_keeps]
  cases o <;> rfl

section
variable {im : Image} {s : State} (h : Serves im s) {x tier : Byte} {reference hold : BitVec 32} {demand floor : BitVec 16}
include h

theorem exec_openSession_unknown (unknown : outletOf x = none) :
    exec (.openSession x reference hold tier demand floor) s =
      .next (answered (.openSession x reference hold tier demand floor) ⟨.badValue, 6, []⟩ s) := by
  refine congrArg Host.Outcome.next ((hostRunning_serves h _ _ _).trans ?_)
  rw [unknown]
  rfl

variable {o : Outlet} (named : outletOf x = some o)
include named

theorem exec_openSession_refused {status : Status} (refused : openAnswer im s o hold.toNat tier.toNat = some status) :
    exec (.openSession x reference hold tier demand floor) s =
      .next (answered (.openSession x reference hold tier demand floor) ⟨status, 6, []⟩ s) := by
  rw [← openAnswer_finishCaptured (.openSession x reference hold tier demand floor), openAnswer] at refused
  refine congrArg Host.Outcome.next ((hostRunning_serves h _ _ _).trans ?_)
  simp only [named, refused]
  rfl

/-- The state with the session opened, before the answer (R100). -/
def sessionOpened (im : Image) (o : Outlet) (reference : BitVec 32) (hold tier d f : Nat) (u : State) : State :=
  triggered im u (acceptOpen im o (openHeader u reference hold tier d f) u)

theorem exec_openSession_accepted (accepted : openAnswer im s o hold.toNat tier.toNat = none) :
    exec (.openSession x reference hold tier demand floor) s =
      .next (respond .ok 6 (appliedPayload (appliedDemand im o demand) (appliedFloor im o demand floor))
        (sessionOpened im o reference hold.toNat tier.toNat (appliedDemand im o demand) (appliedFloor im o demand floor)
          (finishCaptured (.openSession x reference hold tier demand floor) s))) := by
  rw [← openAnswer_finishCaptured (.openSession x reference hold tier demand floor), openAnswer] at accepted
  refine congrArg Host.Outcome.next ((hostRunning_serves h _ _ _).trans ?_)
  simp only [named, accepted]
  rfl

end

-- The conditions in their order (R99, R192).

section
variable {im : Image} {s : State} {o : Outlet} {hold tier : Nat}

theorem openAnswer_badOperands (bad : ¬(1 ≤ hold ∧ hold ≤ 1000000 ∧ tier ≤ 3)) :
    openAnswer im s o hold tier = some .badValue := by
  rw [openAnswer, openCheck, if_pos (by omega)]; rfl

variable (operands : 1 ≤ hold ∧ hold ≤ 1000000 ∧ tier ≤ 3)
include operands

theorem openAnswer_restart (unseen : s.flagSet .restart = true) : openAnswer im s o hold tier = some .restartUnseen := by
  rw [openAnswer, openCheck, if_neg (by omega), if_pos unseen]; rfl

variable (seen : s.flagSet .restart = false)
include seen

theorem openAnswer_seen : openAnswer im s o hold tier = openRefusal im s o := by
  rw [openAnswer, openCheck, if_neg (by omega), if_neg (Bool.eq_false_iff.mp seen)]; rfl

theorem openAnswer_unfit (unfit : fitted im o = false) : openAnswer im s o hold tier = some .badValue := by
  rw [openAnswer_seen operands seen, openRefusal, unfit]; rfl

variable (fits : fitted im o = true)
include fits

theorem openAnswer_wrongState (wrong : (s.out o).osc.state ≠ .idle) : openAnswer im s o hold tier = some .wrongState := by
  rw [openAnswer_seen operands seen, openRefusal, fits, if_neg nofun, if_pos wrong]

variable (idle : (s.out o).osc.state = .idle)
include idle

theorem openAnswer_inhibited (inhibited : s.eStop.level = true ∨ (s.out o).fault.level = true ∨ (s.out o).feedback.level = true) :
    openAnswer im s o hold tier = some .inhibited := by
  rw [openAnswer_seen operands seen, openRefusal, fits, if_neg nofun, if_neg (not_not_intro idle)]
  by_cases eStop : s.eStop.level = true
  · exact if_pos eStop
  by_cases fault : (s.out o).fault.level = true
  · exact (if_neg eStop).trans (if_pos fault)
  · have feedback := (inhibited.resolve_left eStop).resolve_left fault
    exact (if_neg eStop).trans ((if_neg fault).trans (if_pos feedback))

theorem openAnswer_clear (eStop : s.eStop.level = false) (fault : (s.out o).fault.level = false)
    (feedback : (s.out o).feedback.level = false) :
    openAnswer im s o hold tier = if (s.tru.bank s.tru.selected).isNone = true then some .noTariff else none := by
  rw [openAnswer_seen operands seen, openRefusal, fits, if_neg nofun, if_neg (not_not_intro idle), eStop, fault, feedback]
  rfl

end

/-- Settles O26: each condition decides by its `openAnswer_` lemma. -/
theorem openSessionIsRefusedInOrder : Obligations.OpenSessionIsRefusedInOrder := by
  intro im s x tier reference hold demand floor serves c answer operands
  have refused : ∀ {o status}, outletOf x = some o → openAnswer im s o hold.toNat tier.toNat = some status → answer status :=
    fun named no => exec_openSession_refused serves named no
  refine ⟨fun bad => ?_, fun good unseen => ?_, fun o named good seen => ⟨fun unfit => ?_, fun fits wrong => ?_, fun fits idle => ?_⟩⟩
  · by_cases known : x.toNat ≤ 1
    · obtain ⟨o, named⟩ := outletOf_isSome known
      exact refused named (openAnswer_badOperands fun rest => bad ⟨known, rest⟩)
    · exact exec_openSession_unknown serves (outletOf_eq_none (Nat.lt_of_not_le known))
  · obtain ⟨o, named⟩ := outletOf_isSome good.1
    exact refused named (openAnswer_restart good.2 unseen)
  · exact refused named (openAnswer_unfit good.2 seen unfit)
  · exact refused named (openAnswer_wrongState good.2 seen fits wrong)
  · refine ⟨fun inhibited => refused named (openAnswer_inhibited good.2 seen fits idle inhibited), fun eStop fault feedback => ?_⟩
    have decides := openAnswer_clear good.2 seen fits idle eStop fault feedback
    refine ⟨fun unloaded => refused named (decides.trans (if_pos (by rw [unloaded]; rfl))), fun loaded => ?_⟩
    exact ⟨_, exec_openSession_accepted serves named (decides.trans (if_neg (by simpa using loaded))), rfl⟩

-- The session that starts (R100).

theorem out_acceptOpen (im : Image) (o : Outlet) (header : Header) (s : State) :
    (acceptOpen im o header s).out o = opensWith im header s.tru.selected s.now (s.out o) := by
  rw [acceptOpen_eq, raise_out, out_modOut]
  cases o <;> rfl

theorem eventAt_acceptOpen (im : Image) (o : Outlet) (header : Header) (s : State) :
    EventAt o { s with grl.order := s.grl.order ++ [o] } (acceptOpen im o header s) := by
  rw [acceptOpen_eq]
  exact (eventAt_own o _ _).trans (eventAt_raise o _ _)

theorem openHeader_loaded {s : State} {bank : BankContents} (loaded : s.tru.bank s.tru.selected = some bank) (reference : BitVec 32)
    (hold tier d f : Nat) :
    openHeader s reference hold tier d f =
      ⟨reference, hold, tier, d, f, some (s.tru.selected, bank.version), some (s.tru.selected, bank.version),
        if s.tru.clock.set then some s.tru.clock.minute else none⟩ := by
  rw [openHeader, selectedVersion, loaded]
  rfl

section
variable (im : Image) (o : Outlet) (reference : BitVec 32) (hold tier d f : Nat) (u : State)

theorem eventAt_sessionOpened :
    EventAt o { u with grl.order := u.grl.order ++ [o] } (sessionOpened im o reference hold tier d f u) ∧
      (sessionOpened im o reference hold tier d f u).flagSet (changeFlag o) = true := by
  have shared := shared_triggered im u (acceptOpen im o (openHeader u reference hold tier d f) u)
  refine ⟨(eventAt_acceptOpen im o _ u).trans (shared.eventAt o), shared.2.2.2.flagSet ?_⟩
  rw [acceptOpen_eq]
  exact flagSet_raise_same _ _

theorem out_sessionOpened (fits : fitted im o = true) :
    (sessionOpened im o reference hold tier d f u).out o =
      shareless (opensWith im (openHeader u reference hold tier d f) u.tru.selected u.now (u.out o)) := by
  have own := out_acceptOpen im o (openHeader u reference hold tier d f) u
  rw [sessionOpened, out_triggered_of_claimless fits u, own]
  rw [own]
  exact ⟨nofun, nofun⟩

end

/-- Settles O27: the accepted command is `sessionOpened`, with the answer of the applied values. -/
theorem openSessionStartsASession : Obligations.OpenSessionStartsASession := by
  intro im s x tier reference hold demand floor o bank serves named least most tiers seen fits idle eStop fault feedback loaded c d f
  have accepted : openAnswer im s o hold.toNat tier.toNat = none := by
    rw [openAnswer_clear ⟨least, most, tiers⟩ seen fits idle eStop fault feedback, loaded]
    rfl
  obtain ⟨captured, kept⟩ := finishCaptured_captured c s
  have own : (finishCaptured c s).out o = s.out o := finishCaptured_out c s o
  obtain ⟨event, change⟩ := eventAt_sessionOpened im o reference hold.toNat tier.toNat d f (finishCaptured c s)
  refine ⟨_, exec_openSession_accepted serves named accepted, ?_, change, ?_⟩
  · have order : (finishCaptured c s).grl.order = s.grl.order := by rw [kept]
    rw [order] at event
    exact event.answered _
  · rw [respond_out]
    refine (out_sessionOpened im o reference hold.toNat tier.toNat d f (finishCaptured c s) fits).trans ?_
    rw [own, openHeader_loaded (bank := bank) (by rw [kept]; exact loaded), kept, opensWith, if_neg (Bool.eq_false_iff.mp feedback)]
    rfl

end Sys2Proof.Machine
end

section
/-! PROOF. SET DEMAND (R102 to R104, R187, R193), state by state. -/

namespace Sys2Proof.Machine

/-- What a SET DEMAND with its complete flag makes of its outlet; none is WRONG STATE (R102, R103). -/
def demandTakes (im : Image) (o : Outlet) (complete : Byte) (d f : Nat) (u : State) : Option State :=
  if complete = 1 then takeComplete im o u else takeDemand o d f u

section
variable {im : Image} {s : State} (h : Serves im s) {x complete : Byte} {demand floor : BitVec 16}
include h

theorem exec_setDemand_unknown (unknown : outletOf x = none) :
    exec (.setDemand x demand floor complete) s =
      .next (answered (.setDemand x demand floor complete) ⟨.badValue, 7, []⟩ s) := by
  refine congrArg Host.Outcome.next ((hostRunning_serves h _ _ _).trans ?_)
  rw [unknown]
  rfl

variable {o : Outlet} (named : outletOf x = some o)
include named

theorem exec_setDemand_badValue (bad : 1 < complete.toNat ∨ fitted im o = false) :
    exec (.setDemand x demand floor complete) s =
      .next (answered (.setDemand x demand floor complete) ⟨.badValue, 7, []⟩ s) := by
  refine congrArg Host.Outcome.next ((hostRunning_serves h _ _ _).trans ?_)
  rw [named]
  exact if_pos bad

variable (fits : fitted im o = true)
include fits

/-- The demand that a SET DEMAND applies: 0 with the complete flag (R102, R103, R187). -/
theorem exec_setDemand_taken (few : complete.toNat ≤ 1) {d f : Nat} (demand_eq : d = if complete = 1 then 0 else appliedDemand im o demand)
    (floor_eq : f = min floor.toNat d) :
    exec (.setDemand x demand floor complete) s =
      .next (demandTaken im (finishCaptured (.setDemand x demand floor complete) s) d f
        (demandTakes im o complete d f (finishCaptured (.setDemand x demand floor complete) s))) := by
  refine congrArg Host.Outcome.next ((hostRunning_serves h _ _ _).trans ?_)
  rw [named]
  refine (if_neg (by rw [fits]; simpa using few)).trans ?_
  unfold demandTakes
  by_cases set : complete = 1
  · rw [if_pos set] at demand_eq
    rw [if_pos set, if_pos set, floor_eq, demand_eq, Nat.min_zero]
  · rw [if_neg set] at demand_eq
    rw [if_neg set, if_neg set, floor_eq, demand_eq]
    rfl

end

-- What a demand does, by the state of its outlet (R102 to R104).

section
variable {im : Image} {o : Outlet} {u : State} {complete : Byte} {d f : Nat}

theorem demandTakes_refused
    (wrong : (u.out o).osc.state ∈ [.idle, .exhausted, .tripped, .closing, .settleWait] ∨
      complete = 1 ∧ (u.out o).osc.state = .starting) : demandTakes im o complete d f u = none := by
  unfold demandTakes takeComplete takeDemand
  rcases wrong with outside | ⟨set, starting⟩
  · cases state : (u.out o).osc.state <;> simp_all
  · rw [if_pos set, starting]

theorem demandTakes_enters (set : complete = 1) (takes : (u.out o).osc.state ∈ [.dispensing, .parked]) :
    demandTakes im o complete d f u = some (enterDwell im o u) := by
  rw [demandTakes, if_pos set, takeComplete]
  simp only [List.mem_cons, List.not_mem_nil, or_false] at takes
  rcases takes with state | state <;> rw [state]

theorem demandTakes_resumes (clear : complete ≠ 1) (dwelling : (u.out o).osc.state = .dwell) (above : 1 ≤ d) :
    demandTakes im o complete d f u = some (setSession o .dispensing (replaceDemand o d f u)) := by
  rw [demandTakes, if_neg clear, takeDemand, dwelling]
  exact congrArg some (if_pos above)

theorem demandTakes_keeps (clear : complete ≠ 1) (takes : (u.out o).osc.state ∈ [.starting, .dispensing, .parked]) :
    demandTakes im o complete d f u = some (replaceDemand o d f u) := by
  rw [demandTakes, if_neg clear, takeDemand]
  simp only [List.mem_cons, List.not_mem_nil, or_false] at takes
  rcases takes with state | state | state <;> rw [state]

theorem demandTakes_dwelling (dwelling : (u.out o).osc.state = .dwell) :
    demandTakes im o complete 0 0 u = some (replaceDemand o 0 0 u) := by
  unfold demandTakes takeComplete takeDemand
  rw [dwelling]
  split <;> rfl

end

-- The demand replaced, with the computation that it triggers (R46, R102, R104).

theorem Shared.answered {s t : State} (h : Shared s t) (x : Response) :
    Shared { s with hpt.held := x } { t with hpt.held := x } := by
  obtain ⟨keeps, a, b, flags⟩ := h
  refine ⟨?_, a, b, flags⟩
  conv_lhs => rw [keeps]
  rfl

/-- The outlet in a state with its demand and floor (R102). -/
def demands (state : Session) (d f : Nat) (u : OutletState) : OutletState :=
  { u with osc := { u.osc with state := state, header := { u.osc.header with demand := d, floor := f } } }

section
variable (im : Image) (o : Outlet) (d f : Nat) (u : State)

theorem replaceDemand_eq : replaceDemand o d f u = u.modOut o (demands (u.out o).osc.state d f) := by
  cases o <;> rfl

theorem resumeDemand_eq :
    setSession o .dispensing (replaceDemand o d f u) = raise (changeFlag o) (u.modOut o (demands .dispensing d f)) := by
  rw [setSession, replaceDemand, modOut_modOut]
  rfl

theorem modOut_answered (g : OutletState → OutletState) (x : Response) :
    { u.modOut o g with hpt.held := x } = State.modOut { u with hpt.held := x } o g := by
  cases o <;> rfl

theorem shared_replaceDemand (x : Response) :
    Shared (State.modOut { u with hpt.held := x } o (demands (u.out o).osc.state d f))
      { triggered im u (replaceDemand o d f u) with hpt.held := x } := by
  have event := (shared_triggered im u (replaceDemand o d f u)).answered x
  rwa [replaceDemand_eq, modOut_answered, ← replaceDemand_eq] at event

theorem shared_resumeDemand (x : Response) :
    Shared (State.modOut { u with hpt.held := x } o (demands .dispensing d f))
        { triggered im u (setSession o .dispensing (replaceDemand o d f u)) with hpt.held := x } ∧
      (triggered im u (setSession o .dispensing (replaceDemand o d f u))).flagSet (changeFlag o) = true := by
  have event := shared_triggered im u (setSession o .dispensing (replaceDemand o d f u))
  rw [resumeDemand_eq] at event ⊢
  refine ⟨?_, event.2.2.2.flagSet (flagSet_raise_same _ _)⟩
  have raised := ((shared_raise (changeFlag o) _).trans event).answered x
  rwa [modOut_answered] at raised

end

-- The entry to DWELL (R81, R84, R103).

/-- What the withdrawal of a setpoint and the computation after it leave of an outlet (R81, R84). -/
theorem shareless_withdrawnOutlet (im : Image) (now : Nat) (u : OutletState) :
    shareless (withdrawnOutlet im now u) =
      { u with
        mtf := { u.mtf with overDraw := if 0 < u.grl.commanded then 0 else u.mtf.overDraw }
        grl := withdrawnGrants im now u.grl
        share := ⟨0, 0, 0, none⟩ } := by
  rcases Nat.eq_zero_or_pos u.grl.commanded with zero | above
  · have not_above : ¬0 < u.grl.commanded := by omega
    rw [withdrawnOutlet, loweredToNone_zero zero, withdrawnGrants, if_neg not_above, if_neg not_above]
    rfl
  · rw [withdrawnOutlet, loweredToNone_above above, withdrawnGrants, if_pos above, if_pos above, grl_loweredTo]
    rfl

section
variable {im : Image} {o : Outlet} (fits : fitted im o = true) (u : State)
include fits

theorem enterDwell_event :
    EventAt o u (triggered im u (enterDwell im o u)) ∧ (triggered im u (enterDwell im o u)).flagSet (changeFlag o) = true ∧
      (triggered im u (enterDwell im o u)).out o = shareless (dwellsOff im u.now (u.out o)) := by
  have shared := shared_triggered im u (enterDwell im o u)
  have settles := eventAt_settleRises o (raise (changeFlag o) (u.modOut o (dwellsOff im u.now)))
  have own : (enterDwell im o u).out o = dwellsOff im u.now (u.out o) := by
    rw [enterDwell_eq, out_settleRises, raise_out, out_modOut]
  have change : (enterDwell im o u).flagSet (changeFlag o) = true := by
    rw [enterDwell_eq]; exact settles.2.2.2.flagSet (flagSet_raise_same _ _)
  refine ⟨(eventAt_enterDwell im o u).trans (shared.eventAt o), shared.2.2.2.flagSet change, ?_⟩
  rw [out_triggered_of_claimless fits u, own]
  rw [own, Claimless, dwellsOff, (withdrawnOutlet_keeps ..).1]
  exact ⟨nofun, nofun⟩

end

/-- Settles O28: `takeDemand` and `takeComplete` by the outlet's state, each with the computation that it triggers. -/
theorem setDemandReplacesTheDemand : Obligations.SetDemandReplacesTheDemand := by
  intro im s x complete demand floor serves c u
  refine ⟨fun bad => ?_, fun o named few => ?_⟩
  · cases named : outletOf x with
    | none => exact exec_setDemand_unknown serves named
    | some o => exact exec_setDemand_badValue serves named (.inl (bad.resolve_left (Nat.not_lt.mpr (outletOf_le named))))
  intro d f st v w
  have own : u.out o = s.out o := finishCaptured_out c s o
  have now : u.now = s.now := by rw [show u = _ from finishCaptured_keeps c s]
  refine ⟨fun unfit => exec_setDemand_badValue serves named (.inr unfit), fun fits => ?_⟩
  have e := exec_setDemand_taken serves named fits few (demand := demand) (floor := floor) (d := d) (f := f) rfl rfl
  have zero : d = 0 → f = 0 := fun nothing => by simp only [f, nothing, Nat.min_zero]
  have takes : ∀ {w' : State}, demandTakes im o complete d f u = some w' →
      exec c s = .next { triggered im u w' with hpt.held := ⟨.ok, 7, be 2 d ++ be 2 f⟩ } := fun taken => by
    rw [e, taken]; rfl
  refine ⟨fun wrong => ?_, fun keeps => ?_, fun dwelling above => ?_, fun set enters => ?_⟩
  · rw [e, demandTakes_refused (by rw [own]; exact wrong)]
    rfl
  · have taken : demandTakes im o complete d f u = some (replaceDemand o d f u) := by
      rcases keeps with ⟨clear, state⟩ | ⟨dwelling, nothing⟩
      · exact demandTakes_keeps (by rw [clear]; decide) (by rw [own]; exact state)
      · rw [zero nothing, nothing]
        exact demandTakes_dwelling (by rw [own]; exact dwelling)
    have shared := shared_replaceDemand im o d f u ⟨.ok, 7, be 2 d ++ be 2 f⟩
    rw [own] at shared
    exact ⟨_, takes taken, shared⟩
  · have clear : complete ≠ 1 := fun set => by
      have nothing : d = 0 := if_pos set
      omega
    exact ⟨_, takes (demandTakes_resumes clear (by rw [own]; exact dwelling) above), shared_resumeDemand im o d f u _⟩
  · obtain ⟨event, change, out⟩ := enterDwell_event fits u
    refine ⟨_, takes (demandTakes_enters set (by rw [own]; exact enters)), event.answered _, change, ?_⟩
    rw [own, now, dwellsOff, shareless_withdrawnOutlet] at out
    cases o <;> exact out

end Sys2Proof.Machine
end

section
/-! PROOF. E-STOP recognised asserted (R86, R109): one trip at each outlet, in the one event. -/

namespace Sys2Proof.Machine

-- What one trip leaves of the other outlet (R78, R86).

/-- `v` is `u` with its grant values replaced, and those are the same where no rise waits or none is pending. -/
def Regranted (waiting : Bool) (u v : OutletState) : Prop :=
  ∃ g, v = { u with grl := g } ∧ (waiting = false → g = u.grl) ∧ (u.grl.pending = none → g = u.grl)

theorem Regranted.refl (waiting : Bool) (u : OutletState) : Regranted waiting u u := ⟨u.grl, rfl, fun _ => rfl, fun _ => rfl⟩

/-- A release of rises changes the grant values of an outlet, and nothing of one without a pending rise (R77, R78). -/
theorem regranted_releaseRises (im : Image) (s : State) (o : Outlet) :
    Regranted s.grl.riseWaiting (s.out o) ((releaseRises im s).out o) := by
  refine ⟨((releaseRises im s).out o).grl, ?_, fun calm => ?_, fun unpended => by rw [out_releaseRises_of_none unpended]⟩
  · unfold releaseRises
    split
    · rw [noted, out_noteUpdate, (evaluateRises_keeps im s).2]
      cases o <;> rfl
    · rfl
  · rw [releaseRises, calm]
    rfl

theorem regranted_trip (im : Image) {x o : Outlet} (other : o ≠ x) (cause : TripCause) (s : State) :
    Regranted s.grl.riseWaiting (s.out o) ((trip im x cause s).out o) := by
  have kept : (noted im (tripOutlet x cause) s).out o = s.out o := by
    obtain ⟨-, -, -, same⟩ := out_tripOutlet x cause s
    rw [noted, out_noteUpdate, eq_otherOutlet other, same]
  have waiting : (noted im (tripOutlet x cause) s).grl.riseWaiting = s.grl.riseWaiting := by
    rw [noted, noteUpdate_grl, tripOutlet_eq, raise_grl, raise_grl, modOut_grl]
  rw [trip_eq]
  split
  · have released := regranted_releaseRises im (noted im (tripOutlet x cause) s) o
    rw [tripped, out_settleRises]
    rwa [kept, waiting] at released
  · exact .refl _ _

theorem trip_of_can {im : Image} {o : Outlet} {s : State} (fits : fitted im o = true) (can : trippable (s.out o).osc = true)
    (cause : TripCause) : trip im o cause s = tripped im o cause s := by
  rw [trip_eq, fits, can]; rfl

theorem trip_of_cannot {im : Image} {o : Outlet} {s : State} (cannot : fitted im o = false ∨ trippable (s.out o).osc = false)
    (cause : TripCause) : trip im o cause s = s := by
  rw [trip_eq, if_neg]
  rcases cannot with unfit | untrippable
  · rw [unfit]; nofun
  · rw [untrippable, Bool.and_false]; nofun

theorem flagSet_tripped (im : Image) (o : Outlet) (cause : TripCause) (s : State) :
    (tripped im o cause s).flagSet (tripFlag o) = true ∧ (tripped im o cause s).flagSet (changeFlag o) = true := by
  obtain ⟨trip, change⟩ := flagSet_tripOutlet o cause s
  have kept := flagsKept_tripped im o cause s
  exact ⟨kept.flagSet trip, kept.flagSet change⟩

-- Both trips (R109).

/-- The trips of an E-STOP, `x` first. -/
def eStopTrips (im : Image) (x : Outlet) (s : State) : State := trip im (otherOutlet x) .eStop (trip im x .eStop s)

/-- E-STOP is asserted, and where a rise waits a free value is drawn for the order of the trips (log 4). -/
def eStopped (s : State) : State :=
  { s with eStop := ⟨true, true, 0⟩, draws := if s.grl.riseWaiting then s.draws + 1 else s.draws }

theorem tripBoth_eq (im : Image) (s : State) :
    ∃ x, tripBoth im { s with eStop := recognise true s.eStop } = eStopTrips im x (eStopped s) := by
  have drawn : (if s.grl.riseWaiting = true then
      { s with eStop := recognise true s.eStop, draws := s.draws + 1 } else { s with eStop := recognise true s.eStop }) = eStopped s := by
    unfold eStopped
    split <;> rfl
  unfold tripBoth
  dsimp only
  rw [drawn]
  split
  · exact ⟨.b, rfl⟩
  · exact ⟨.a, rfl⟩

theorem out_eStopped (s : State) (o : Outlet) : (eStopped s).out o = s.out o := by cases o <;> rfl

theorem exec_eStopAsserted {im : Image} {s : State} (r : s.configured = .running im) (released : s.eStop.level = false) :
    ∃ x, exec .eStopAsserted s = .next (outletEvent im s (eStopTrips im x (eStopped s))) := by
  obtain ⟨x, both⟩ := tripBoth_eq im s
  exact ⟨x, by rw [exec, execEStopAsserted, whenRunning_running r, if_neg (Bool.eq_false_iff.mp released), both]⟩

/-- What an event at an outlet leaves of the station (`EventAt`). -/
def StationKept (s t : State) : Prop :=
  t = { s with
        shc := t.shc
        slc := { s.slc with slot := t.slc.slot }
        hpt := { s.hpt with flags := t.hpt.flags }
        grl := { s.grl with riseHold := t.grl.riseHold, riseWaiting := t.grl.riseWaiting }
        outA := t.outA
        outB := t.outB } ∧ FlagsKept s t

theorem EventAt.stationKept {o : Outlet} {s t : State} (h : EventAt o s t) : StationKept s t := ⟨h.1, h.2.2.2⟩

theorem StationKept.trans {s t u : State} (h : StationKept s t) (k : StationKept t u) : StationKept s u :=
  ⟨by rw [k.1, h.1], h.2.trans k.2⟩

theorem stationKept_eStop (im : Image) (before : State) (x : Outlet) (s : State) :
    StationKept s (outletEvent im before (eStopTrips im x s)) :=
  ((eventAt_trip im x .eStop s).stationKept.trans (eventAt_trip im (otherOutlet x) .eStop _).stationKept).trans
    (eventAt_outletEvent im x before _).stationKept

theorem state_of_sessions {s t : State} (h : sessions t = sessions s) (o : Outlet) : (t.out o).osc.state = (s.out o).osc.state := by
  cases o with
  | a => exact congrArg Prod.fst h
  | b => exact congrArg Prod.snd h

-- An outlet that trips.

section
variable {im : Image} {o : Outlet} {s : State} (fits : fitted im o = true) (can : trippable (s.out o).osc = true)
include fits can

/-- The outlet that trips first trips as it stands, the other as the rises that the first one releases leave it (R86). -/
theorem out_eStopTrips (x : Outlet) :
    ∃ g, (eStopTrips im x s).out o = tripsOff .eStop { s.out o with grl := g } ∧ (s.grl.riseWaiting = false → g = (s.out o).grl) := by
  unfold eStopTrips
  by_cases first : o = x
  · subst x
    obtain ⟨g, kept, -, unpended⟩ := regranted_trip im (x := otherOutlet o) (o := o) (by cases o <;> nofun) .eStop (trip im o .eStop s)
    rw [trip_of_can fits can, out_tripped] at kept unpended
    refine ⟨(s.out o).grl, ?_, fun _ => rfl⟩
    rw [trip_of_can fits can, kept, unpended (sendWord_pending _)]
  · obtain rfl : o = otherOutlet x := eq_otherOutlet first
    obtain ⟨g, kept, calm, -⟩ := regranted_trip im first .eStop s
    refine ⟨g, ?_, calm⟩
    rw [trip_of_can fits (by rw [kept]; exact can), out_tripped, kept]

theorem flagSet_eStopTrips (x : Outlet) :
    (eStopTrips im x s).flagSet (tripFlag o) = true ∧ (eStopTrips im x s).flagSet (changeFlag o) = true := by
  unfold eStopTrips
  by_cases first : o = x
  · subst x
    obtain ⟨trip, change⟩ := flagSet_tripped im o .eStop s
    obtain ⟨-, -, -, kept⟩ := eventAt_trip im (otherOutlet o) .eStop (tripped im o .eStop s)
    rw [trip_of_can fits can]
    exact ⟨kept.flagSet trip, kept.flagSet change⟩
  · obtain rfl : o = otherOutlet x := eq_otherOutlet first
    rw [trip_of_can fits (by rw [(trip_osc im x .eStop s).1]; exact can)]
    exact flagSet_tripped im _ .eStop _

/-- The outlet after the event, with the computation that its trip triggers (R46, R109). -/
theorem eStop_trips {before : State} (x : Outlet) (same : sessions s = sessions before) :
    (outletEvent im before (eStopTrips im x s)).flagSet (tripFlag o) = true ∧
      (outletEvent im before (eStopTrips im x s)).flagSet (changeFlag o) = true ∧
      ∃ g, (outletEvent im before (eStopTrips im x s)).out o = trippedOff .eStop { s.out o with grl := g } ∧
        (s.grl.riseWaiting = false → g = (s.out o).grl) := by
  obtain ⟨g, own, calm⟩ := out_eStopTrips fits can x
  obtain ⟨trip, change⟩ := flagSet_eStopTrips fits can x
  have state : ((eStopTrips im x s).out o).osc.state = .tripped := by rw [own]; rfl
  have changed : sessions (eStopTrips im x s) ≠ sessions before := fun h => by
    have kept : ((eStopTrips im x s).out o).osc.state = (s.out o).osc.state := state_of_sessions (h.trans same.symm) o
    rw [trippable, ← kept, state] at can
    nomatch can
  have kept := (shared_outletEvent im before (eStopTrips im x s)).2.2.2
  refine ⟨kept.flagSet trip, kept.flagSet change, g, ?_, calm⟩
  rw [outletEvent, if_neg changed, out_triggered_of_claimless fits before, own, shareless_tripsOff]
  rw [Claimless, state]
  exact ⟨nofun, nofun⟩

end

-- An outlet that does not trip.

/-- A computation hands nothing over to an outlet that is not fitted (R72). -/
theorem osc_computeOnce_of_unfit {im : Image} {o : Outlet} (unfit : fitted im o = false) (s : State) :
    ((computeOnce im s).out o).osc = (s.out o).osc := by
  have skips : ∀ u, (handOverAt im o u) = u := fun u => if_neg (by rw [unfit]; nofun)
  have handed : ∀ u, (handOver im u).out o = u.out o := fun u => by
    rw [handOver, out_holdRises]
    cases o with
    | a => exact (out_handOverAt_other im .b _).trans (by rw [skips]; rfl)
    | b => rw [skips]; exact out_handOverAt_other im .a u
  rw [computeOnce, noted, out_noteUpdate, handed, out_compute]

theorem osc_computation_of_unfit {im : Image} {o : Outlet} (unfit : fitted im o = false) (s : State) :
    ((computation im s).out o).osc = (s.out o).osc := by
  obtain ⟨u, last, -, same⟩ := computation_settles (im := im) (P := fun u => (u.out o).osc = (s.out o).osc)
    (fun u same => (osc_computeOnce_of_unfit unfit u).trans same) (s := s) rfl
  rw [last, osc_computeOnce_of_unfit unfit, same]

theorem claimless_of_untrippable {u : OutletState} (h : trippable u.osc = false) : Claimless u := by
  unfold trippable at h
  refine ⟨fun state => ?_, fun state => ?_⟩ <;> rw [state] at h <;> nomatch h

section
variable {im : Image} {o : Outlet} {s : State} (cannot : fitted im o = false ∨ trippable (s.out o).osc = false)
include cannot

theorem eStopTrips_of_cannot (x : Outlet) : eStopTrips im x s = trip im (otherOutlet o) .eStop s := by
  unfold eStopTrips
  by_cases first : o = x
  · subst x
    rw [trip_of_cannot cannot]
  · obtain rfl : o = otherOutlet x := eq_otherOutlet first
    rw [otherOutlet_other, trip_of_cannot (o := otherOutlet x)]
    rw [(trip_osc im x .eStop s).1]
    exact cannot

/-- The event leaves the outlet its session (R107), whatever the trip of the other one releases. -/
theorem eStop_spares (before : State) (x : Outlet) :
    (outletEvent im before (eStopTrips im x s)).out o = otherOnly (s.out o) ((outletEvent im before (eStopTrips im x s)).out o) ∧
      ((outletEvent im before (eStopTrips im x s)).out o).osc.state = (s.out o).osc.state := by
  have osc := (trip_osc im (otherOutlet o) .eStop s).1
  obtain ⟨-, event, -, -⟩ := (eventAt_trip im (otherOutlet o) .eStop s).trans (eventAt_outletEvent im (otherOutlet o) before _)
  rw [otherOutlet_other] at osc event
  rw [eStopTrips_of_cannot cannot]
  refine ⟨event, ?_⟩
  unfold outletEvent
  split
  · rw [out_noteUpdate, osc]
  · cases fits : fitted im o with
    | false => rw [triggered, osc_computation_of_unfit fits, out_noteUpdate, osc]
    | true =>
      have untrippable := cannot.resolve_left (by rw [fits]; nofun)
      rw [out_triggered_of_claimless fits before (claimless_of_untrippable (by rw [osc]; exact untrippable)), shareless, osc]

end

/-- Settles O32: whichever outlet trips first, each trips by `eStop_trips` or stays by `eStop_spares`. -/
theorem eStopTripsEveryTrippableOutlet : Obligations.EStopTripsEveryTrippableOutlet := by
  intro im s r released
  obtain ⟨x, e⟩ := exec_eStopAsserted r released
  obtain ⟨station, flags⟩ := stationKept_eStop im s x (eStopped s)
  refine ⟨_, e, station, flags, fun o => ⟨fun fits can => ?_, fun cannot => ?_⟩⟩
  · obtain ⟨trip, change, g, out, calm⟩ := eStop_trips (before := s) (s := eStopped s) fits (by rw [out_eStopped]; exact can) x rfl
    rw [out_eStopped] at out calm
    refine ⟨trip, change, ?_⟩
    rw [out]
    refine ⟨rfl, ?_, ?_, ?_, ?_, ?_, ?_, sendWord_sends _, fun opened => ?_, fun quiet closed => ?_, rfl⟩
    all_goals simp only [trippedOff, sendWord_target, sendWord_commanded, sendWord_pending, sendWord_unconfirmed,
      sendWord_confirmTimer, sendWord_parkHold, sendWord_inEffect]
    · rw [opened]; rfl
    · rw [closed, calm quiet]; rfl
  · have spares := eStop_spares (s := eStopped s) (by rw [out_eStopped]; exact cannot) s x
    rwa [out_eStopped] at spares

end Sys2Proof.Machine
end

section
/-! PROOF. Stray pulses (R124), the no-flow (R129), and the power estimate with its smoothing (R127 to R131). -/

namespace Sys2Proof.Machine

/-- The outlet with the pulse input recognised active (R121). -/
def pulseSeen (u : OutletState) : OutletState := { u with mtf := { u.mtf with pulse := ⟨true, true, 0⟩ } }

section
variable {im : Image} {s : State} {o : Outlet} (r : s.configured = .running im) (fits : fitted im o = true)
include r fits

/-- A pulse recognised at an outlet in session is billed, at any other it is stray (R121, R123). -/
theorem exec_meterPulse (low : (s.out o).mtf.pulse.level = false) :
    exec (.meterPulse o) s =
      .next (if inSession (s.out o).osc.state then billPulse im o (s.modOut o pulseSeen) else strayPulse o (s.modOut o pulseSeen)) := by
  rw [exec, execMeterPulse, whenFitted_running r fits, if_neg (Bool.eq_false_iff.mp low)]
  rfl

theorem exec_noFlow (times : (s.out o).mtf.capture = .timing) :
    exec (.noFlow o) s = .next (s.modOut o fun u => { u with mtf := endFlow u.mtf }) := by
  rw [exec, execNoFlow, whenFitted_running r fits, if_pos times]

end

theorem inSession_eq_false {x : Session} : inSession x = false ↔ x = .idle ∨ x = .settleWait := by
  cases x <;> simp [inSession]

/-- Settles O43: a pulse outside a session is stray, and the no-flow is `endFlow`. -/
theorem strayPulsesAndNoFlow : Obligations.StrayPulsesAndNoFlow := by
  refine ⟨fun im s o r fits low outside => ?_, fun im s o r fits times => exec_noFlow r fits times⟩
  rw [exec_meterPulse r fits low, if_neg (by rw [inSession_eq_false.mpr outside]; nofun), strayPulse, modOut_modOut]
  cases o <;> rfl

-- The smoothed power moves by the difference over 2^β, rounded toward zero (R130).

theorem tdiv_up {a b : Nat} (up : a ≤ b) (beta : Nat) : Int.tdiv ((b : Int) - a) (2 ^ beta) = ((b - a) / 2 ^ beta : Nat) := by
  rw [← Int.ofNat_sub up, Int.ofNat_tdiv]
  rfl

theorem tdiv_down {a b : Nat} (down : b ≤ a) (beta : Nat) : Int.tdiv ((b : Int) - a) (2 ^ beta) = -((a - b) / 2 ^ beta : Nat) := by
  rw [← Int.neg_sub, Int.neg_tdiv, tdiv_up down]

theorem smooth_up {beta smoothed estimate : Nat} (up : smoothed ≤ estimate) :
    smooth beta false smoothed estimate = smoothed + (estimate - smoothed) / 2 ^ beta := by
  rw [smooth, if_neg (by nofun), tdiv_up up]
  rfl

theorem smooth_down {beta smoothed estimate : Nat} (down : estimate ≤ smoothed) :
    smooth beta false smoothed estimate = smoothed - (smoothed - estimate) / 2 ^ beta := by
  rw [smooth, if_neg (by nofun), tdiv_down down]
  omega

/-- Settles O45: the estimate as `takeEstimate` writes it, and the smoothing from below and from above. -/
theorem estimatesAreSmoothed : Obligations.EstimatesAreSmoothed := by
  refine ⟨fun im n m _ => ⟨rfl, rfl, rfl, rfl, rfl, fun reseeds => if_pos reseeds, fun reseeded => ?_⟩,
    fun beta smoothed estimate low high => ?_⟩
  · rw [← reseeded]
    rfl
  rcases Nat.le_total smoothed estimate with up | down
  · have within : (estimate - smoothed) / 2 ^ beta ≤ estimate - smoothed := Nat.div_le_self _ _
    have still : estimate - smoothed < 2 ^ beta → (estimate - smoothed) / 2 ^ beta = 0 := Nat.div_eq_of_lt
    rw [smooth_up up, tdiv_up up]
    generalize (estimate - smoothed) / 2 ^ beta = move at within still ⊢
    refine ⟨rfl, fun below => ?_, by omega, fun _ => by omega, fun _ => by omega⟩
    rw [still (by omega), Nat.add_zero]
  · have within : (smoothed - estimate) / 2 ^ beta ≤ smoothed - estimate := Nat.div_le_self _ _
    have still : smoothed - estimate < 2 ^ beta → (smoothed - estimate) / 2 ^ beta = 0 := Nat.div_eq_of_lt
    rw [smooth_down down, tdiv_down down]
    generalize (smoothed - estimate) / 2 ^ beta = move at within still ⊢
    refine ⟨by omega, fun below => ?_, by omega, fun _ => by omega, fun _ => by omega⟩
    rw [still (by omega), Nat.sub_zero]

end Sys2Proof.Machine
end

section
/-! PROOF. A billed pulse (R125 to R134, R150, R160, R164): its pricing and accrual, the credit check, and the capture with its over-draw
test. -/

namespace Sys2Proof.Machine

-- What the pulse's later effects leave of what it is billed on.

/-- The parts of an outlet that the credit check and the capture leave as the accrual of the pulse left them (R125). -/
def billedPart (u : OutletState) :
    TruOutlet × Accounts × Filter × Nat × Header × Option Record × Filter × Filter × Filter × Filter :=
  (u.tru, u.acc, u.mtf.pulse, u.mtf.stray, u.osc.header, u.heldRecord, u.hold, u.settled, u.fault, u.feedback)

theorem EventAt.flagSet {o : Outlet} {s t : State} (h : EventAt o s t) {f : EventFlag} (set : s.flagSet f = true) : t.flagSet f = true := by
  obtain ⟨-, -, -, kept⟩ := h
  exact kept.flagSet set

/-- An event at an outlet that leaves it what the pulse is billed on. -/
structure PulseEvent (o : Outlet) (s t : State) : Prop where
  event : EventAt o s t
  part : billedPart (t.out o) = billedPart (s.out o)

theorem PulseEvent.refl (o : Outlet) (s : State) : PulseEvent o s s := ⟨.refl o s, rfl⟩

theorem PulseEvent.trans {o : Outlet} {s t u : State} (h : PulseEvent o s t) (k : PulseEvent o t u) : PulseEvent o s u :=
  ⟨h.event.trans k.event, k.part.trans h.part⟩

theorem pulseEvent_modOut {s : State} {o : Outlet} {f : OutletState → OutletState}
    (h : billedPart (f (s.out o)) = billedPart (s.out o)) : PulseEvent o s (s.modOut o f) :=
  ⟨eventAt_own o f s, by rw [out_modOut]; exact h⟩

theorem Shared.pulseEvent {s t : State} (h : Shared s t) (o : Outlet) : PulseEvent o s t := by
  refine ⟨h.eventAt o, ?_⟩
  rw [h.1]
  cases o <;> rfl

theorem pulseEvent_trip (im : Image) (o : Outlet) (cause : TripCause) (s : State) : PulseEvent o s (trip im o cause s) := by
  refine ⟨eventAt_trip im o cause s, ?_⟩
  rw [trip_eq]
  split
  · rw [out_tripped]; rfl
  · rfl

theorem pulseEvent_tripEvent (im : Image) (o : Outlet) (cause : TripCause) (s : State) : PulseEvent o s (tripEvent im o cause s) :=
  (pulseEvent_trip im o cause s).trans ((shared_outletEvent im s _).pulseEvent o)

theorem out_exhaust (im : Image) (o : Outlet) (s : State) : (exhaust im o s).out o = exhaustsOff im s.now (s.out o) := by
  rw [exhaust_eq, out_settleRises, raise_out, raise_out, out_modOut]

theorem pulseEvent_exhaust (im : Image) (o : Outlet) (s : State) : PulseEvent o s (exhaust im o s) := by
  refine ⟨eventAt_exhaust im o s, ?_⟩
  rw [out_exhaust, exhaustsOff, withdrawnOutlet, loweredToNone]
  split <;> rfl

-- The credit check (R164).

/-- The credit of an outlet is reached at a price (R164). -/
def CreditMet (im : Image) (p : Priced) (u : OutletState) : Prop :=
  u.osc.state = .dispensing ∧ (u.osc.header.hold * 10000 : Int) - im.stopReserve * p.price ≤ (u.acc.total : Int)

theorem creditReached_iff {hold reserve price total : Nat} :
    creditReached hold reserve price total = true ↔ (hold * 10000 : Int) - reserve * price ≤ (total : Int) := decide_eq_true_iff

section
variable {im : Image} {o : Outlet} {p : Priced} {s : State}

theorem checkCredit_of_met (met : CreditMet im p (s.out o)) : checkCredit im o p s = exhaust im o s :=
  if_pos (met.imp_right creditReached_iff.mpr)

theorem checkCredit_of_unmet (unmet : ¬CreditMet im p (s.out o)) : checkCredit im o p s = s :=
  if_neg fun met => unmet (met.imp_right creditReached_iff.mp)

end

theorem pulseEvent_checkCredit (im : Image) (o : Outlet) (p : Priced) (s : State) : PulseEvent o s (checkCredit im o p s) := by
  by_cases met : CreditMet im p (s.out o)
  · rw [checkCredit_of_met met]; exact pulseEvent_exhaust im o s
  · rw [checkCredit_of_unmet met]; exact .refl o s

/-- The outlet that the credit exhausts, after the computation that this triggers (R81, R84, R106). -/
def exhaustedOutlet (im : Image) (now : Nat) (u : OutletState) : OutletState :=
  { u with
    osc := { u.osc with state := .exhausted, exhaustedFlag := true }
    mtf := { u.mtf with overDraw := if 0 < u.grl.commanded then 0 else u.mtf.overDraw }
    grl := withdrawnGrants im now u.grl
    share := ⟨0, 0, 0, none⟩ }

theorem shareless_exhaustsOff (im : Image) (now : Nat) (u : OutletState) :
    shareless (exhaustsOff im now u) = exhaustedOutlet im now u := by
  rw [exhaustsOff, shareless_withdrawnOutlet]
  rfl

theorem state_exhaustsOff (im : Image) (now : Nat) (u : OutletState) : (exhaustsOff im now u).osc.state = .exhausted := by
  rw [exhaustsOff, (withdrawnOutlet_keeps ..).1]

theorem flagSet_exhaust (im : Image) (o : Outlet) (s : State) :
    (exhaust im o s).flagSet .exhausted = true ∧ (exhaust im o s).flagSet (changeFlag o) = true := by
  have kept := eventAt_settleRises o (raise .exhausted (raise (changeFlag o) (s.modOut o (exhaustsOff im s.now))))
  rw [exhaust_eq]
  exact ⟨kept.flagSet (flagSet_raise_same _ _), kept.flagSet ((flagsKept_raise _ _).flagSet (flagSet_raise_same _ _))⟩

/-- The exhaustion of a session, as an event with the computation that it triggers (R46, R106). -/
theorem exhaust_event {im : Image} {o : Outlet} (fits : fitted im o = true) {s : State} (was : (s.out o).osc.state = .dispensing) :
    EventAt o s (outletEvent im s (exhaust im o s)) ∧ (outletEvent im s (exhaust im o s)).flagSet .exhausted = true ∧
      (outletEvent im s (exhaust im o s)).flagSet (changeFlag o) = true ∧
      (outletEvent im s (exhaust im o s)).out o = exhaustedOutlet im s.now (s.out o) := by
  have own := out_exhaust im o s
  have state : ((exhaust im o s).out o).osc.state = .exhausted := by rw [own, state_exhaustsOff]
  have changed : sessions (exhaust im o s) ≠ sessions s := fun same => by
    have kept := state_of_sessions same o
    rw [state, was] at kept
    nomatch kept
  obtain ⟨exhausted, change⟩ := flagSet_exhaust im o s
  have kept := eventAt_outletEvent im o s (exhaust im o s)
  refine ⟨(eventAt_exhaust im o s).trans kept, kept.flagSet exhausted, kept.flagSet change, ?_⟩
  rw [outletEvent, if_neg changed, out_triggered_of_claimless fits, own, shareless_exhaustsOff]
  rw [Claimless, state]
  exact ⟨nofun, nofun⟩

-- The capture and the over-draw test (R127 to R134).

/-- The outlet whose timing starts (R127). -/
def timingFrom (u : OutletState) : OutletState := { u with mtf := startTiming u.mtf }

/-- The outlet with the estimate of its interval taken and an over-draw count (R127 to R134). -/
def estimated (im : Image) (count : Nat) (u : OutletState) : OutletState :=
  { u with mtf := { takeEstimate im (max 1 u.mtf.counter) u.mtf with overDraw := count } }

/-- The over-draw count that the estimate of an outlet's interval gives (R132, R133). -/
def countAtEstimate (im : Image) (u : OutletState) : Nat := overDrawAfter im u.grl (takeEstimate im (max 1 u.mtf.counter) u.mtf)

theorem overDrawAfter_eq (im : Image) (g : Grl) (m : Mtf) :
    overDrawAfter im g m = if g.unconfirmed = false ∧ g.inEffect + im.tolerance < m.smoothed then m.overDraw + 1 else 0 := by
  unfold overDrawAfter
  cases g.unconfirmed <;> simp

/-- Where the pulse exhausts its session, a setpoint above 0 leaves a decrease unconfirmed, which holds the count at 0 (R133). -/
theorem countAtEstimate_exhausted (im : Image) (now : Nat) (u : OutletState) :
    countAtEstimate im (exhaustedOutlet im now u) = if u.grl.commanded = 0 then countAtEstimate im u else 0 := by
  rcases Nat.eq_zero_or_pos u.grl.commanded with zero | above
  · rw [if_pos zero, countAtEstimate, exhaustedOutlet, withdrawnGrants, if_neg (by omega), if_neg (by omega)]
    rfl
  · rw [if_neg (by omega), countAtEstimate, overDrawAfter_eq, if_neg]
    rw [exhaustedOutlet, withdrawnGrants, if_pos above]
    dsimp only
    rw [sendWord_unconfirmed]
    exact fun h => nomatch h.1

section
variable {im : Image} {o : Outlet} {s : State}

theorem captureInterval_starts (starts : (s.out o).mtf.capture = .waiting ∨ (s.out o).mtf.capture = .timedOut) :
    captureInterval im o s = s.modOut o timingFrom := by
  unfold captureInterval
  rcases starts with capture | capture <;> rw [capture] <;> rfl

variable (times : (s.out o).mtf.capture = .timing)
include times

theorem captureInterval_times :
    captureInterval im o s =
      if im.overDrawLimit ≤ countAtEstimate im (s.out o) then tripEvent im o .overDraw (s.modOut o (estimated im 0))
      else s.modOut o (estimated im (countAtEstimate im (s.out o))) := by
  unfold captureInterval
  rw [times]
  dsimp only
  rw [testOverDraw, out_modOut, modOut_modOut, modOut_modOut]
  rfl

theorem captureInterval_counts (below : countAtEstimate im (s.out o) < im.overDrawLimit) :
    captureInterval im o s = s.modOut o (estimated im (countAtEstimate im (s.out o))) := by
  rw [captureInterval_times times, if_neg (Nat.not_le.mpr below)]

variable (fits : fitted im o = true) (limit : im.overDrawLimit ≤ countAtEstimate im (s.out o))
include fits limit

theorem captureInterval_spares (cannot : trippable (s.out o).osc = false) :
    captureInterval im o s = s.modOut o (estimated im 0) := by
  rw [captureInterval_times times, if_pos limit, tripEvent, outletEvent_trip_idle fits .overDraw ?_ (.refl _) rfl]
  rw [out_modOut]
  exact Bool.eq_false_iff.mp cannot

theorem captureInterval_trips (can : trippable (s.out o).osc = true) :
    Tripped o .overDraw (s.modOut o (estimated im 0)) (captureInterval im o s) := by
  rw [captureInterval_times times, if_pos limit]
  exact tripped_outletEvent fits .overDraw (by rw [out_modOut]; exact can) rfl

end

theorem pulseEvent_captureInterval (im : Image) (o : Outlet) (s : State) : PulseEvent o s (captureInterval im o s) := by
  cases capture : (s.out o).mtf.capture with
  | off =>
    rw [captureInterval, capture]
    exact .refl o s
  | waiting =>
    rw [captureInterval_starts (.inl capture)]
    exact pulseEvent_modOut rfl
  | timedOut =>
    rw [captureInterval_starts (.inr capture)]
    exact pulseEvent_modOut rfl
  | timing =>
    rw [captureInterval_times capture]
    split
    · exact (pulseEvent_modOut rfl).trans (pulseEvent_tripEvent im o .overDraw _)
    · exact pulseEvent_modOut rfl

/-- `EventAt` says nothing of the outlet's own part, so it holds as well from any replacement of that part. -/
theorem EventAt.setOut {o : Outlet} {s t : State} (h : EventAt o s t) (u : OutletState) : EventAt o (s.setOut o u) t := by
  have back : (s.setOut o u).modOut o (fun _ => s.out o) = s := by cases o <;> rfl
  exact (back ▸ eventAt_own o (fun _ => s.out o) (s.setOut o u)).trans h

/-- A trip is told by its event and by what its outlet was. -/
theorem Tripped.of_setOut {o : Outlet} {cause : TripCause} {s y t : State} (h : Tripped o cause y t) (event : EventAt o s t) :
    Tripped o cause (s.setOut o (y.out o)) t := by
  obtain ⟨-, trip, change, out⟩ := h
  refine ⟨event.setOut _, trip, change, ?_⟩
  rw [out_setOut]
  exact out

-- Pricing and accrual (R125, R150, R160).

/-- The outlet with the pulse recognised, priced and accrued. -/
def billedOutlet (im : Image) (fee : Nat) (p : Priced) (u : OutletState) : OutletState :=
  { u with tru := recordLookup p u.tru, acc := accrue im.pulseWeight fee p u.acc, mtf := { u.mtf with pulse := ⟨true, true, 0⟩ } }

/-- TARIFF FAULT is raised at a lookup whose outcome is a fault (R153). -/
def faultNoted (p : Priced) (s : State) : State := if isTariffFault p.outcome then raise .tariffFault s else s

/-- The state with the pulse recognised, priced and accrued. -/
def billed (im : Image) (o : Outlet) (fee : Nat) (p : Priced) (s : State) : State :=
  faultNoted p (s.modOut o (billedOutlet im fee p))

theorem faultNoted_modOut (p : Priced) (s : State) (o : Outlet) (f : OutletState → OutletState) :
    (faultNoted p s).modOut o f = faultNoted p (s.modOut o f) := by
  unfold faultNoted
  split
  · exact modOut_raise .tariffFault s o f
  · rfl

theorem faultNoted_eq (p : Priced) (s : State) :
    faultNoted p s =
      { s with hpt.flags := if isTariffFault p.outcome then s.hpt.flags ||| flagMask .tariffFault else s.hpt.flags } := by
  unfold faultNoted
  split <;> rfl

theorem faultNoted_out (p : Priced) (s : State) (o : Outlet) : (faultNoted p s).out o = s.out o := by
  rw [faultNoted_eq]
  cases o <;> rfl

theorem eventAt_faultNoted (o : Outlet) (p : Priced) (s : State) : EventAt o s (faultNoted p s) := by
  unfold faultNoted
  split
  · exact eventAt_raise o .tariffFault s
  · exact .refl o s

section
variable (im : Image) (o : Outlet) (fee : Nat) (p : Priced) (s : State)

theorem out_billed : (billed im o fee p s).out o = billedOutlet im fee p (s.out o) := by
  rw [billed, faultNoted_out, out_modOut]

theorem eventAt_billed : EventAt o s (billed im o fee p s) :=
  (eventAt_own o _ s).trans (eventAt_faultNoted o p _)

theorem billed_now : (billed im o fee p s).now = s.now := by
  rw [billed, faultNoted_eq]
  exact modOut_now ..

/-- The billed state with a change of its outlet, as one update of the outlet and the flags. -/
theorem billed_modOut (f : OutletState → OutletState) :
    (billed im o fee p s).modOut o f =
      { s.setOut o (f (billedOutlet im fee p (s.out o))) with
        hpt.flags := if isTariffFault p.outcome then s.hpt.flags ||| flagMask .tariffFault else s.hpt.flags } := by
  rw [billed, faultNoted_modOut, modOut_modOut, faultNoted_eq]
  cases o <;> rfl

theorem accruePulse_eq :
    accruePulse im o p s =
      faultNoted p (s.modOut o fun u =>
        { u with tru := recordLookup p u.tru, acc := accrue im.pulseWeight (boundBank s o).sessionFee.toNat p u.acc }) := by
  rw [accruePulse, show noteLookup o p s = faultNoted p (s.modOut o fun u => { u with tru := recordLookup p u.tru }) from rfl,
    faultNoted_modOut, modOut_modOut]

end

theorem boundBank_eq {s : State} {o : Outlet} {letter : Bank} {bank : BankContents} (bound : (s.out o).tru.binding = some letter)
    (loaded : s.tru.bank letter = some bank) : boundBank s o = bank := by
  rw [boundBank, bound]
  dsimp only
  rw [loaded, Option.getD_some]

section
variable {im : Image} {s : State} {o : Outlet} {letter : Bank} {bank : BankContents} (r : s.configured = .running im)
  (fits : fitted im o = true) (low : (s.out o).mtf.pulse.level = false) (inside : inSession (s.out o).osc.state = true)
  (bound : (s.out o).tru.binding = some letter) (loaded : s.tru.bank letter = some bank)
  {p : Priced} (priced : p = lookup im s.tru.clock s.shc.busy (s.out o).osc.header.tier bank)
  {x : State} (accrued : x = billed im o bank.sessionFee.toNat p s)
include r fits low inside bound loaded priced accrued

/-- A billed pulse is priced from the bank its session is bound to, accrued, and then tested and timed (R125, R145). -/
theorem exec_meterPulse_billed :
    exec (.meterPulse o) s = .next (captureInterval im o (outletEvent im x (checkCredit im o p x))) := by
  have binds : boundBank (s.modOut o pulseSeen) o = bank :=
    boundBank_eq (by rw [out_modOut]; exact bound) (by rw [modOut_tru]; exact loaded)
  have prices : priceAt im (s.modOut o pulseSeen) o = p := by
    rw [priceAt, binds, out_modOut, modOut_tru, modOut_shc, priced]
    rfl
  have accrues : accruePulse im o p (s.modOut o pulseSeen) = x := by
    rw [accruePulse_eq, binds, modOut_modOut, accrued]
    rfl
  rw [exec_meterPulse r fits low, if_pos inside, billPulse, prices, accrues]

theorem exec_meterPulse_unmet (unmet : ¬CreditMet im p (x.out o)) : exec (.meterPulse o) s = .next (captureInterval im o x) := by
  rw [exec_meterPulse_billed r fits low inside bound loaded priced accrued, checkCredit_of_unmet unmet, outletEvent_same im x x rfl rfl]

theorem exec_meterPulse_met (met : CreditMet im p (x.out o)) :
    exec (.meterPulse o) s = .next (captureInterval im o (outletEvent im x (exhaust im o x))) := by
  rw [exec_meterPulse_billed r fits low inside bound loaded priced accrued, checkCredit_of_met met]

/-- A pulse that reaches the credit exhausts the session before its capture (R106, R125). -/
theorem meterPulse_exhausts (met : CreditMet im p (x.out o)) :
    ∃ y, exec (.meterPulse o) s = .next (captureInterval im o y) ∧ EventAt o s (captureInterval im o y) ∧
      (captureInterval im o y).flagSet .exhausted = true ∧ (captureInterval im o y).flagSet (changeFlag o) = true ∧
      y.out o = exhaustedOutlet im s.now (billedOutlet im bank.sessionFee.toNat p (s.out o)) := by
  obtain ⟨event, exhausted, change, out⟩ := exhaust_event fits met.1
  have captured := (pulseEvent_captureInterval im o (outletEvent im x (exhaust im o x))).event
  have accrues := accrued ▸ eventAt_billed im o bank.sessionFee.toNat p s
  refine ⟨_, exec_meterPulse_met r fits low inside bound loaded priced accrued met, (accrues.trans event).trans captured,
    captured.flagSet exhausted, captured.flagSet change, ?_⟩
  rw [out, accrued, out_billed, billed_now]

/-- What every billed pulse does, whatever its credit and its capture (R125, R150, R153, R160). -/
theorem meterPulse_accrues :
    ∃ t, exec (.meterPulse o) s = .next t ∧ EventAt o s t ∧
      billedPart (t.out o) = billedPart (billedOutlet im bank.sessionFee.toNat p (s.out o)) ∧
      (isTariffFault p.outcome = true → t.flagSet .tariffFault = true) := by
  have tests := ((pulseEvent_checkCredit im o p x).trans ((shared_outletEvent im x _).pulseEvent o)).trans
    (pulseEvent_captureInterval im o _)
  refine ⟨_, exec_meterPulse_billed r fits low inside bound loaded priced accrued, ?_, ?_, fun fault => ?_⟩
  · exact (accrued ▸ eventAt_billed im o bank.sessionFee.toNat p s).trans tests.event
  · rw [tests.part, accrued, out_billed]
  · refine tests.event.flagSet ?_
    rw [accrued, billed, faultNoted, if_pos fault]
    exact flagSet_raise_same .tariffFault _

end

/-- Settles O44: `meterPulse_accrues`, and the capture after the credit check, by whether the credit is met. -/
theorem billedPulseIsAccruedAndTested : Obligations.BilledPulseIsAccruedAndTested := by
  constructor
  · intro im s o letter bank r fits low inside bound loaded p
    obtain ⟨t, runs, event, part, fault⟩ := meterPulse_accrues r fits low inside bound loaded (p := p) rfl rfl
    simp only [billedPart, Prod.mk.injEq] at part
    obtain ⟨tru, acc, pulse, stray, header, record, hold, settled, report, feedback⟩ := part
    exact ⟨t, runs, event, tru, acc, fault, pulse, stray, header, record, hold, settled, report, feedback⟩
  intro im s o letter bank r fits low inside bound loaded u p acc flags n e smoothed count state timing estimate credit
  have own := out_billed im o bank.sessionFee.toNat p s
  have credits : CreditMet im p ((billed im o bank.sessionFee.toNat p s).out o) ↔ credit := by rw [own]; exact Iff.rfl
  have counts : countAtEstimate im (billedOutlet im bank.sessionFee.toNat p (s.out o)) = count := overDrawAfter_eq ..
  have kept : ((billed im o bank.sessionFee.toNat p s).out o).mtf.capture = u.mtf.capture := by rw [own]; rfl
  have starts := billed_modOut im o bank.sessionFee.toNat p s timingFrom
  have estimates := fun k => billed_modOut im o bank.sessionFee.toNat p s (estimated im k)
  have unmet := fun short => exec_meterPulse_unmet r fits low inside bound loaded (p := p) rfl rfl (mt credits.mp short)
  have met := fun reached => meterPulse_exhausts r fits low inside bound loaded (p := p) rfl rfl (credits.mpr reached)
  refine ⟨fun short capture => ?_, fun short capture below => ?_, fun short capture limit cannot => ?_,
    fun short capture limit can => ?_, fun reached capture => ?_, fun reached capture => ?_⟩
  · rw [unmet short, captureInterval_starts (by rw [kept]; exact capture), starts]
    rfl
  · rw [unmet short, captureInterval_counts (by rw [kept]; exact capture) (by rw [own, counts]; exact below), own, counts, estimates]
    rfl
  · rw [unmet short, captureInterval_spares (by rw [kept]; exact capture) fits (by rw [own, counts]; exact limit)
      (by rw [own]; exact cannot), estimates]
    rfl
  · have trips := captureInterval_trips (s := billed im o bank.sessionFee.toNat p s) (by rw [kept]; exact capture) fits
      (by rw [own, counts]; exact limit) (by rw [own]; exact can)
    rw [estimates] at trips
    exact ⟨_, unmet short, trips⟩
  · obtain ⟨y, runs, event, set, change, out⟩ := met reached
    refine ⟨_, runs, event, set, change, ?_⟩
    rw [captureInterval_starts (by rw [out]; exact capture), out_modOut, out]
    cases o <;> rfl
  · intro held exhausted
    obtain ⟨y, runs, event, set, change, out⟩ := met reached
    have counted : countAtEstimate im (y.out o) = held := by rw [out, countAtEstimate_exhausted, counts]; rfl
    have left : ∀ k, estimated im k (y.out o) = exhausted k := fun k => by rw [out]; cases o <;> rfl
    have times : (y.out o).mtf.capture = .timing := by rw [out]; exact capture
    refine ⟨_, runs, event, set, change, fun below => ?_, fun limit => ?_⟩
    · rw [captureInterval_counts times (by rw [counted]; exact below), out_modOut, counted, left]
    · have trips := captureInterval_trips times fits (by rw [counted]; exact limit) (by rw [out]; rfl)
      have told := trips.of_setOut event
      rwa [out_modOut, left] at told

end Sys2Proof.Machine
end

section
/-! SUPPORT. The bindings (R138, R141, R145): what stands of them in the header, at the Tariff Unit and in the banks (`bindings`), what a step
may do to them (`Rebinds`), and which operations leave them as they are. -/

namespace Sys2Proof.Machine

/-- What an outlet has of a binding: the bank its header reads, the header's record of the bound bank, the Tariff Unit's binding, and whether
the outlet is in session. -/
structure OutletBinding where
  reads : Option (Bank × BitVec 16)
  recorded : Option (Bank × BitVec 16)
  bank : Option Bank
  session : Bool

def bindingOf (u : OutletState) : OutletBinding := ⟨u.osc.header.bound, u.osc.header.binding, u.tru.binding, inSession u.osc.state⟩

/-- The contents of the banks, and what each outlet has of a binding. -/
structure Bindings where
  banks : Bank → Option BankContents
  outlet : Outlet → OutletBinding

def bindings (s : State) : Bindings := ⟨s.tru.bank, fun o => bindingOf (s.out o)⟩

/-- R138, R141 and R145 at one outlet: `BoundBankKept` asks it of both. -/
def BoundTo (banks : Bank → Option BankContents) (x : OutletBinding) : Prop :=
  x.recorded.map Prod.fst = x.bank ∧ (∀ y, x.recorded = some y → x.reads = some y) ∧
    (x.session = true → ∃ bank contents, x.bank = some bank ∧ banks bank = some contents ∧ x.recorded = some (bank, contents.version))

theorem boundBankKept_iff {s : State} : BoundBankKept s ↔ ∀ o, BoundTo (bindings s).banks ((bindings s).outlet o) := Iff.rfl

/-- What a step may do to one outlet's binding, with the banks as they are after it: it stays, the outlet leaves its session with it
(R117), the binding is released (R138, R146) or reset, or an outlet with no session is bound to a LOADED bank (R145). -/
inductive Rebound (banks : Bank → Option BankContents) (x : OutletBinding) : OutletBinding → Prop
  | kept : Rebound banks x x
  | left : Rebound banks x { x with session := false }
  | released : Rebound banks x { x with recorded := none, bank := none, session := false }
  | cleared : Rebound banks x ⟨none, none, none, false⟩
  | bound {bank : Bank} {contents : BankContents} (idle : x.session = false) (loaded : banks bank = some contents) :
      Rebound banks x ⟨some (bank, contents.version), some (bank, contents.version), some bank, true⟩

/-- A step rebinds each outlet, and leaves the bank of a session that goes on as it is (R141). -/
structure Rebinds (s t : State) : Prop where
  banks : ∀ o bank, ((bindings s).outlet o).session = true → ((bindings s).outlet o).bank = some bank →
    ((bindings t).outlet o).session = true → (bindings t).banks bank = (bindings s).banks bank
  outlet : ∀ o, Rebound (bindings t).banks ((bindings s).outlet o) ((bindings t).outlet o)

/-- A session that goes on keeps its binding: only an outlet with no session is bound. -/
theorem Rebound.of_session {banks : Bank → Option BankContents} {x y : OutletBinding} (h : Rebound banks x y) (before : x.session = true)
    (after : y.session = true) : y = x := by
  cases h with
  | kept => rfl
  | left => nomatch after
  | released => nomatch after
  | cleared => nomatch after
  | bound idle _ => nomatch idle.symm.trans before

theorem Rebound.boundTo {banks banks' : Bank → Option BankContents} {x y : OutletBinding} (h : Rebound banks' x y) (k : BoundTo banks x)
    (same : ∀ bank, x.session = true → x.bank = some bank → y.session = true → banks' bank = banks bank) : BoundTo banks' y := by
  obtain ⟨together, reads, session⟩ := k
  cases h with
  | kept =>
    refine ⟨together, reads, fun on => ?_⟩
    obtain ⟨bank, contents, binding, loaded, recorded⟩ := session on
    exact ⟨bank, contents, binding, (same bank on binding on).trans loaded, recorded⟩
  | left => exact ⟨together, reads, nofun⟩
  | released => exact ⟨rfl, nofun, nofun⟩
  | cleared => exact ⟨rfl, nofun, nofun⟩
  | bound _ loaded => exact ⟨rfl, fun _ => id, fun _ => ⟨_, _, rfl, loaded, rfl⟩⟩

theorem Rebinds.boundBankKept {s t : State} (h : Rebinds s t) (k : BoundBankKept s) : BoundBankKept t :=
  boundBankKept_iff.mpr fun o => (h.outlet o).boundTo (boundBankKept_iff.mp k o) (h.banks o)

-- How the rows compose.

section
variable {s t u : State}

theorem Rebinds.of_same (same : bindings t = bindings s) : Rebinds s t :=
  ⟨fun _ _ _ _ _ => by rw [same], fun _ => by rw [same]; exact .kept⟩

theorem Rebinds.refl (s : State) : Rebinds s s := .of_same rfl

theorem Rebinds.before (same : bindings t = bindings s) (h : Rebinds t u) : Rebinds s u :=
  ⟨same ▸ h.banks, same ▸ h.outlet⟩

theorem Rebinds.after (h : Rebinds s t) (same : bindings u = bindings t) : Rebinds s u :=
  ⟨same ▸ h.banks, same ▸ h.outlet⟩

/-- A change of one outlet's binding with the banks as they were. -/
theorem Rebinds.at_outlet {o : Outlet} (tru : t.tru = s.tru) (other : t.out (otherOutlet o) = s.out (otherOutlet o))
    (own : Rebound s.tru.bank (bindingOf (s.out o)) (bindingOf (t.out o))) : Rebinds s t := by
  refine ⟨fun _ _ _ _ _ => congrFun (congrArg Tru.bank tru) _, fun x => ?_⟩
  change Rebound t.tru.bank (bindingOf (s.out x)) (bindingOf (t.out x))
  rw [tru]
  by_cases same : x = o
  · rw [same]; exact own
  · rw [eq_otherOutlet same, other]; exact .kept

/-- Both outlets lose their sessions and their bindings (R203, R210); the banks may be anything. -/
theorem Rebinds.of_cleared (cleared : ∀ o, bindingOf (t.out o) = ⟨none, none, none, false⟩) : Rebinds s t := by
  have after : ∀ o, (bindings t).outlet o = ⟨none, none, none, false⟩ := cleared
  refine ⟨fun o _ _ _ on => ?_, fun o => ?_⟩
  · rw [after] at on; nomatch on
  · rw [after]; exact .cleared

theorem Rebinds.ite {p : Prop} [Decidable p] (h : p → Rebinds s t) : Rebinds s (if p then t else s) := by
  split
  · exact h ‹_›
  · exact .refl s

theorem Rebinds.ite_not {p : Prop} [Decidable p] (h : ¬p → Rebinds s t) : Rebinds s (if p then s else t) := by
  split
  · exact .refl s
  · exact h ‹_›

theorem rebinds_whenRunning {f : Image → State} (h : ∀ im, Rebinds s (f im)) : Rebinds s (whenRunning s f) := by
  unfold whenRunning
  split
  · exact h _
  · exact .refl s
  · exact .refl s

theorem rebinds_whenFitted {o : Outlet} {f : Image → State} (h : ∀ im, Rebinds s (f im)) : Rebinds s (whenFitted s o f) :=
  rebinds_whenRunning fun im => .ite fun _ => h im

end

-- What leaves the bindings as they are.

theorem bindings_of_outlets {s t : State} (tru : t.tru.bank = s.tru.bank) (a : bindingOf t.outA = bindingOf s.outA)
    (b : bindingOf t.outB = bindingOf s.outB) : bindings t = bindings s := by
  have outlets : (fun o => bindingOf (t.out o)) = fun o => bindingOf (s.out o) := funext fun o => by
    cases o
    exacts [a, b]
  rw [bindings, bindings, tru, outlets]

theorem bindings_modOut {s : State} {o : Outlet} {f : OutletState → OutletState} (h : bindingOf (f (s.out o)) = bindingOf (s.out o)) :
    bindings (s.modOut o f) = bindings s := by
  cases o
  · exact bindings_of_outlets rfl h rfl
  · exact bindings_of_outlets rfl rfl h

theorem ParksOnly.inSession {x y : Session} (h : ParksOnly x y) : inSession y = inSession x := by
  rcases h with rfl | ⟨rfl, rfl⟩ | ⟨rfl, rfl⟩ <;> rfl

/-- What either outlet's event may do to the other one touches no binding. -/
theorem bindings_of_eventAt {s t : State} (h : ∀ o, EventAt o s t) : bindings t = bindings s := by
  have other : ∀ o, bindingOf (t.out (otherOutlet o)) = bindingOf (s.out (otherOutlet o)) := fun o => by
    obtain ⟨-, keeps, parks, -⟩ := h o
    rw [bindingOf, bindingOf, parks.inSession, keeps]
    rfl
  exact bindings_of_outlets (by rw [(h .a).1]) (other .b) (other .a)

theorem Shared.bindings {s t : State} (h : Shared s t) : bindings t = bindings s := bindings_of_eventAt h.eventAt

theorem RosterOnly.bindings {s t : State} (h : RosterOnly s t) : bindings t = bindings s := by rw [h.1]; rfl

@[simp] theorem bindings_raise (f : EventFlag) (s : State) : bindings (raise f s) = bindings s := rfl
@[simp] theorem bindings_respond (x : Status) (code : Nat) (p : List Byte) (s : State) : bindings (respond x code p s) = bindings s := rfl
@[simp] theorem bindings_refuse (x : Status) (code : Nat) (s : State) : bindings (refuse x code s) = bindings s := rfl

theorem bindings_slc (s : State) (x : Slc) : bindings { s with slc := x } = bindings s := rfl

@[simp] theorem bindings_finishCaptured (c : Instr) (s : State) : bindings (finishCaptured c s) = bindings s := by
  rw [finishCaptured_keeps]; rfl

@[simp] theorem bindings_noteUpdate (im : Image) (before : Announced) (s : State) : bindings (noteUpdate im before s) = bindings s :=
  (shared_noteUpdate im before s).bindings
@[simp] theorem bindings_noted (im : Image) (f : State → State) (s : State) : bindings (noted im f s) = bindings (f s) :=
  bindings_noteUpdate ..
@[simp] theorem bindings_computation (im : Image) (s : State) : bindings (computation im s) = bindings s :=
  (shared_computation im s).bindings
@[simp] theorem bindings_triggered (im : Image) (before s : State) : bindings (triggered im before s) = bindings s :=
  (shared_triggered im before s).bindings
@[simp] theorem bindings_outletEvent (im : Image) (before s : State) : bindings (outletEvent im before s) = bindings s :=
  (shared_outletEvent im before s).bindings
@[simp] theorem bindings_settleRises (s : State) : bindings (settleRises s) = bindings s :=
  bindings_of_eventAt fun o => eventAt_settleRises o s
@[simp] theorem bindings_releaseRises (im : Image) (s : State) : bindings (releaseRises im s) = bindings s :=
  bindings_of_eventAt fun o => eventAt_releaseRises im o s
@[simp] theorem bindings_evaluateRises (im : Image) (s : State) : bindings (evaluateRises im s) = bindings s :=
  bindings_of_eventAt fun o => eventAt_evaluateRises im o s

@[simp] theorem bindings_finishRoster (im : Image) (before s : State) : bindings (finishRoster im before s) = bindings s := by
  unfold finishRoster
  dsimp only
  split <;> simp [(rosterOnly_evaluateMode im s).bindings]

@[simp] theorem bindings_tickCause (s : State) : bindings (tickCause s) = bindings s := by
  unfold tickCause
  split
  · split <;> rfl
  · rfl

end Sys2Proof.Machine
end

section
/-! SUPPORT. The bindings through the events of a session (R86, R101 to R117, R145): most leave them as they are, the end of a session releases
one (R138), and OPEN SESSION binds an outlet that has none. -/

namespace Sys2Proof.Machine

-- The events that go on with a session, or leave it unbound.

@[simp] theorem bindings_trip (im : Image) (o : Outlet) (cause : TripCause) (s : State) : bindings (trip im o cause s) = bindings s := by
  rw [trip_eq]
  split
  · rename_i trips
    have on : inSession (s.out o).osc.state = true := by
      rcases trippable_iff.mp (Bool.and_eq_true_iff.mp trips).2 with states | ⟨closing, -⟩
      · cases state : (s.out o).osc.state <;> simp_all [inSession]
      · rw [closing]; rfl
    rw [tripped, bindings_settleRises, bindings_releaseRises, bindings_noted, tripOutlet_eq, bindings_raise, bindings_raise]
    refine bindings_modOut ?_
    rw [bindingOf, bindingOf, on]
    rfl
  · rfl

@[simp] theorem bindings_tripEvent (im : Image) (o : Outlet) (cause : TripCause) (s : State) :
    bindings (tripEvent im o cause s) = bindings s := (bindings_outletEvent ..).trans (bindings_trip ..)

@[simp] theorem bindings_tripBoth (im : Image) (s : State) : bindings (tripBoth im s) = bindings s := by
  have drawn : bindings (if s.grl.riseWaiting then { s with draws := s.draws + 1 } else s) = bindings s := by split <;> rfl
  unfold tripBoth
  dsimp only
  split <;> rw [bindings_trip, bindings_trip, drawn]

@[simp] theorem bindings_testStart (o : Outlet) (s : State) : bindings (testStart o s) = bindings s := by
  by_cases starts : startCondition (s.out o) = true
  · rw [testStart_holds starts, bindings_raise]
    refine bindings_modOut ?_
    rw [bindingOf, bindingOf, (startCondition_iff.mp starts).1]
    rfl
  · rw [testStart, if_neg starts]

theorem bindingOf_withdrawnOutlet (im : Image) (now : Nat) (u : OutletState) : bindingOf (withdrawnOutlet im now u) = bindingOf u := by
  unfold withdrawnOutlet loweredToNone
  split <;> rfl

theorem bindings_enterDwell (im : Image) {o : Outlet} {s : State} (on : inSession (s.out o).osc.state = true) :
    bindings (enterDwell im o s) = bindings s := by
  rw [enterDwell_eq, bindings_settleRises, bindings_raise]
  refine bindings_modOut ?_
  rw [dwellsOff, bindingOf_withdrawnOutlet, bindingOf, bindingOf, on]
  rfl

theorem bindings_exhaust (im : Image) {o : Outlet} {s : State} (on : inSession (s.out o).osc.state = true) :
    bindings (exhaust im o s) = bindings s := by
  rw [exhaust_eq, bindings_settleRises, bindings_raise, bindings_raise]
  refine bindings_modOut ?_
  rw [exhaustsOff, bindingOf_withdrawnOutlet, bindingOf, bindingOf, on]
  rfl

theorem bindings_replaceDemand (o : Outlet) (d f : Nat) (s : State) : bindings (replaceDemand o d f s) = bindings s := bindings_modOut rfl

theorem bindings_takeDemand {o : Outlet} {d f : Nat} {s t : State} (taken : takeDemand o d f s = some t) : bindings t = bindings s := by
  unfold takeDemand at taken
  split at taken
  case h_4 dwelling =>
    obtain rfl := Option.some.inj taken
    split
    · rw [setSession, bindings_raise, replaceDemand, modOut_modOut]
      refine bindings_modOut ?_
      rw [bindingOf, bindingOf, dwelling]
      rfl
    · exact bindings_replaceDemand o d f s
  all_goals cases taken
  all_goals exact bindings_replaceDemand o d f s

theorem bindings_takeComplete {im : Image} {o : Outlet} {s t : State} (taken : takeComplete im o s = some t) : bindings t = bindings s := by
  unfold takeComplete at taken
  split at taken <;> rename_i state <;> cases taken
  · exact bindings_enterDwell im (by rw [state]; rfl)
  · exact bindings_enterDwell im (by rw [state]; rfl)
  · exact bindings_replaceDemand o 0 0 s

theorem bindings_acc (o : Outlet) (g : Accounts → Accounts) (s : State) :
    bindings (s.modOut o fun u => { u with acc := g u.acc }) = bindings s := bindings_modOut rfl

theorem bindings_mtf (o : Outlet) (g : Mtf → Mtf) (s : State) :
    bindings (s.modOut o fun u => { u with mtf := g u.mtf }) = bindings s := bindings_modOut rfl

theorem bindings_accruePulse (im : Image) (o : Outlet) (p : Priced) (s : State) : bindings (accruePulse im o p s) = bindings s := by
  have looked : bindings (noteLookup o p s) = bindings s := by
    unfold noteLookup
    dsimp only
    split
    · exact (bindings_raise ..).trans (bindings_modOut rfl)
    · exact bindings_modOut rfl
  exact (bindings_acc o _ _).trans looked

theorem bindings_captureInterval (im : Image) (o : Outlet) (s : State) : bindings (captureInterval im o s) = bindings s := by
  unfold captureInterval
  split
  · rfl
  · exact bindings_mtf o _ s
  · exact bindings_mtf o _ s
  · unfold testOverDraw
    dsimp only
    split
    · exact (bindings_tripEvent ..).trans ((bindings_modOut rfl).trans (bindings_mtf o _ s))
    · exact (bindings_modOut rfl).trans (bindings_mtf o _ s)

theorem bindings_billPulse (im : Image) (o : Outlet) (s : State) : bindings (billPulse im o s) = bindings s := by
  have credit : ∀ p u, bindings (checkCredit im o p u) = bindings u := fun p u => by
    unfold checkCredit
    dsimp only
    split
    · rename_i reached
      exact bindings_exhaust im (by rw [reached.1]; rfl)
    · rfl
  exact (bindings_captureInterval ..).trans ((bindings_outletEvent ..).trans ((credit _ _).trans (bindings_accruePulse ..)))

-- The end of a session (R115 to R117).

theorem tru_clearGrants (o : Outlet) (s : State) : (clearGrants o s).tru = s.tru := by rw [(clearGrants_keeps o s).1]

/-- A completed close releases the binding and clears its record (R138, R146). -/
theorem rebinds_completeClose (o : Outlet) (s : State) : Rebinds s (completeClose o s) := by
  refine .at_outlet (o := o) ?_ (out_completeClose o s).2.2 ?_
  · rw [completeClose_eq, tru_clearGrants, (eventAt_settleRecord o _ _).1, modOut_tru]
  · have own : bindingOf ((completeClose o s).out o) =
        { bindingOf (s.out o) with recorded := none, bank := none, session := false } := by
      have off : inSession (if s.stu.queue.length < 8 then .idle else .settleWait) = false := by split <;> rfl
      rw [completeClose_eq, clearGrants_out, out_settleRecord, out_modOut, bindingOf, modOut_stu]
      exact congrArg (OutletBinding.mk _ _ _) off
    rw [own]
    exact .released

theorem rebinds_beginOpenWait (im : Image) (o : Outlet) (s : State) : Rebinds s (beginOpenWait im o s) := by
  have waits : bindings (s.modOut o (waitsOpen im s.now)) = bindings s := bindings_modOut rfl
  cases closed : (s.out o).feedback.level with
  | true => rw [beginOpenWait_closed closed]; exact .of_same waits
  | false => rw [beginOpenWait_open closed]; exact (rebinds_completeClose o _).before waits

theorem rebinds_reportOutput (im : Image) (o : Outlet) (s : State) : Rebinds s (reportOutput im o s) :=
  .ite fun _ => (rebinds_beginOpenWait im o s).after (bindings_noted ..)

theorem rebinds_acceptClose (im : Image) {o : Outlet} {s : State} (accepts : closable (s.out o).osc.state = true) :
    Rebinds s (acceptClose im o s) := by
  have on : inSession (s.out o).osc.state = true := by
    cases state : (s.out o).osc.state <;> simp_all [closable, inSession]
  have closing : bindingOf (closingOutlet (s.out o)) = bindingOf (s.out o) := by
    rw [bindingOf, bindingOf, on]; rfl
  by_cases tripped : (s.out o).osc.state = .tripped
  · rw [acceptClose_tripped tripped]
    exact (rebinds_beginOpenWait im o _).before ((bindings_raise ..).trans (bindings_modOut closing))
  · rw [acceptClose_waiting tripped]
    refine (rebinds_reportOutput im o _).before ?_
    rw [outputWaits, bindings_settleRises, bindings_raise]
    refine bindings_modOut ?_
    rw [outputWaiting, bindingOf_withdrawnOutlet]
    exact closing

theorem rebinds_feedbackOpened (im : Image) (o : Outlet) (s : State) : Rebinds s (feedbackOpened im o s) := by
  unfold feedbackOpened
  split
  · exact rebinds_completeClose o s
  split
  · exact .of_same (bindings_modOut rfl)
  split
  · exact .of_same (bindings_modOut rfl)
  · exact .refl s

/-- The outlet that is served leaves the settle-wait order with what binding it has; none, where the order is that of R117. -/
theorem rebinds_serveSettleWait (s : State) : Rebinds s (serveSettleWait s) := by
  cases order : s.stu.settleWait with
  | nil => rw [serveSettleWait, order]; exact .refl s
  | cons o rest =>
    have tru : (headServed o rest s).tru = s.tru := by
      unfold headServed
      split
      · rw [enterQueue_keeps]
      · rfl
    have out := (headServed_keeps o rest s).2
    rw [serveSettleWait_cons order]
    refine .at_outlet (o := o) ?_ ?_ ?_
    · rw [tru_clearGrants, setSession_tru, modOut_tru, tru]
    · rw [(clearGrants_keeps o _).2.1, setSession_out_other, out_modOut_other, out]
    · rw [clearGrants_out, setSession_out, out_modOut, out]
      exact .left

-- The start of a session (R100, R145).

theorem loaded_of_openRefusal {im : Image} {s : State} {o : Outlet} (h : openRefusal im s o = none) :
    ∃ contents, s.tru.bank s.tru.selected = some contents := by
  cases loaded : s.tru.bank s.tru.selected with
  | some contents => exact ⟨contents, rfl⟩
  | none =>
    simp only [openRefusal, loaded, Option.isNone_none, if_true] at h
    repeat' split at h
    all_goals nomatch h

/-- An accepted OPEN SESSION binds its outlet to the selected bank, with that bank's version in the header (R100, R145). -/
theorem rebinds_acceptOpen (im : Image) {o : Outlet} {s : State} (accepted : openRefusal im s o = none) (reference : BitVec 32)
    (hold tier demand floor : Nat) : Rebinds s (acceptOpen im o (openHeader s reference hold tier demand floor) s) := by
  obtain ⟨contents, loaded⟩ := loaded_of_openRefusal accepted
  have idle : inSession (s.out o).osc.state = false := by rw [idle_of_openRefusal accepted]; rfl
  have version : selectedVersion s = (s.tru.selected, contents.version) := by rw [selectedVersion, loaded]; rfl
  refine .at_outlet (o := o) (by rw [(acceptOpen_keeps im o _ s).1]) (acceptOpen_keeps im o _ s).2 ?_
  rw [acceptOpen_eq, raise_out, out_modOut]
  simp only [bindingOf, opensWith, openHeader, version, bindSession]
  exact .bound idle loaded

-- The resets and the entry to RUNNING (R203, R208, R210).

theorem rebinds_powerOnState (s : State) : Rebinds s (powerOnState s) := .of_cleared fun o => by cases o <;> rfl

theorem rebinds_reinitialise (s : State) : Rebinds s (reinitialise s) := .of_cleared fun o => by cases o <;> rfl

theorem bindings_firstWord (im : Image) (o : Outlet) (s : State) : bindings (firstWord im o s) = bindings s := by
  unfold firstWord
  split
  · exact bindings_modOut rfl
  · rfl

theorem bindings_enterRunning (im : Image) (s : State) : bindings (enterRunning im s) = bindings s := by
  unfold enterRunning
  dsimp only
  rw [bindings_firstWord, bindings_firstWord, bindings_computation]
  split
  · exact bindings_of_outlets rfl rfl rfl
  · exact bindings_of_outlets rfl rfl rfl

end Sys2Proof.Machine
end

section
/-! PROOF. The bound bank at every step (R138, R141, R145): each row of the model as it rebinds the outlets (`Rebinds`), and 0.1 ms, which
leaves every binding as it is. -/

namespace Sys2Proof.Machine

-- The gates of the host port.

theorem rebinds_hostAny (c : Instr) {f : State → State} (h : ∀ u, Rebinds u (f u)) (s : State) : Rebinds s (hostAny c f s) := by
  have taken := (h (finishCaptured c s)).before (bindings_finishCaptured c s)
  unfold hostAny
  split
  · exact .of_same rfl
  · exact taken
  · split
    · exact .of_same rfl
    · exact taken

theorem rebinds_hostRunning (c : Instr) (code : Nat) {f : Image → State → State} (h : ∀ im u, Rebinds u (f im u)) (s : State) :
    Rebinds s (hostRunning c code f s) := by
  unfold hostRunning
  split
  · exact .of_same rfl
  · exact .of_same ((bindings_refuse ..).trans (bindings_finishCaptured c s))
  · split
    · exact .of_same rfl
    · exact (h _ _).before (bindings_finishCaptured c s)

theorem Rebinds.respond {s t : State} (h : Rebinds s t) (x : Status) (code : Nat) (p : List Byte) : Rebinds s (respond x code p t) :=
  h.after (bindings_respond ..)

theorem rebinds_refuse (x : Status) (code : Nat) (s : State) : Rebinds s (refuse x code s) := .of_same (bindings_refuse ..)

theorem rebinds_respond (x : Status) (code : Nat) (p : List Byte) (s : State) : Rebinds s (respond x code p s) :=
  .of_same (bindings_respond ..)

-- The banks (R141, R142).

theorem bank_load (t : Tru) (bank : Bank) (x : BankContents) (other : Bank) :
    (t.load bank x).bank other = if other = bank then some x else t.bank other := by
  cases bank <;> cases other <;> rfl

theorem bankInUse_iff {s : State} {bank : Bank} :
    bankInUse s bank = true ↔ ∃ o, inSession (s.out o).osc.state = true ∧ (s.out o).tru.binding = some bank := by
  simp only [bankInUse, List.any_eq_true, Bool.and_eq_true, beq_iff_eq]
  exact ⟨fun ⟨o, _, used⟩ => ⟨o, used⟩, fun ⟨o, used⟩ => ⟨o, by cases o <;> simp, used⟩⟩

/-- A bank that no session is bound to may be replaced (R141). -/
theorem rebinds_load {s : State} {bank : Bank} (free : ¬bankInUse s bank = true) (x : BankContents) :
    Rebinds s { s with tru := s.tru.load bank x } := by
  refine ⟨fun o other on binding _ => ?_, fun o => ?_⟩
  · have apart : other ≠ bank := fun same => free (bankInUse_iff.mpr ⟨o, on, same ▸ binding⟩)
    exact (bank_load s.tru bank x other).trans (if_neg apart)
  · cases o <;> exact .kept

-- The rows of the host port (spec/09) that answer.

theorem rebinds_onlyAnswers {c : Instr} (k : onlyAnswers c = true) {s t : State} (e : exec c s = .next t) : Rebinds s t := by
  cases c with
  | pending =>
    simp only [exec, execPending] at e
    split at e <;> cases e
    · exact .of_same rfl
    · exact .refl s
  | chipSelectRise bytes =>
    cases e
    split
    · exact .of_same rfl
    split <;> exact .of_same rfl
  | unknownCommand bytes =>
    simp only [exec, execUnknownCommand] at e
    split at e <;> cases e
    · exact .refl s
    · refine rebinds_hostAny _ (fun u => ?_) s
      split
      · exact rebinds_refuse _ _ u
      · exact .refl u
  | nop | status => cases e; exact rebinds_hostAny _ (fun u => rebinds_respond _ _ _ u) s
  | events clear =>
    cases e
    refine rebinds_hostAny _ (fun u => ?_) s
    split
    · exact rebinds_refuse _ _ u
    · exact .of_same rfl
  | lineStatus => cases e; exact rebinds_hostRunning _ _ (fun _ u => rebinds_respond _ _ _ u) s
  | eventEnable enable =>
    cases e
    refine rebinds_hostRunning _ _ (fun _ u => ?_) s
    split
    · exact rebinds_refuse _ _ u
    · exact .of_same rfl
  | setClock minute seconds =>
    cases e
    refine rebinds_hostRunning _ _ (fun _ u => ?_) s
    split
    · exact rebinds_refuse _ _ u
    · exact .of_same (bindings_of_outlets rfl rfl rfl)
  | tariffLoad bank image =>
    cases e
    refine rebinds_hostRunning _ _ (fun _ u => ?_) s
    split
    · exact rebinds_refuse _ _ u
    split
    · exact rebinds_refuse _ _ u
    split
    · exact (rebinds_load ‹_› _).respond _ _ _
    · exact rebinds_refuse _ _ u
  | tariffSelect bank =>
    cases e
    refine rebinds_hostRunning _ _ (fun _ u => ?_) s
    split
    · exact rebinds_refuse _ _ u
    split
    · exact .of_same (bindings_of_outlets (by funext c; cases c <;> rfl) rfl rfl)
    · exact rebinds_refuse _ _ u
  | outletStatus | rosterRead | tariffRead | recordPeek =>
    cases e
    refine rebinds_hostRunning _ _ (fun _ u => ?_) s
    split
    · exact rebinds_refuse _ _ u
    · exact rebinds_respond _ _ _ u
  | _ => cases k

-- The commands of a session (R99, R102, R112, R177) and RESTART (R210).

section
variable {s t : State}

theorem rebinds_openSession {outlet tier : Byte} {reference hold : BitVec 32} {demand floor : BitVec 16}
    (e : exec (.openSession outlet reference hold tier demand floor) s = .next t) : Rebinds s t := by
  cases e
  refine rebinds_hostRunning _ _ (fun im u => ?_) s
  split
  · exact rebinds_refuse _ _ u
  split
  · exact rebinds_refuse _ _ u
  · rename_i accepted
    exact ((rebinds_acceptOpen im (Option.or_eq_none_iff.mp accepted).2 _ _ _ _ _).after (bindings_triggered ..)).respond _ _ _

theorem rebinds_demandTaken (im : Image) (d f : Nat) {after : Option State} (k : ∀ t, after = some t → bindings t = bindings s) :
    Rebinds s (demandTaken im s d f after) := by
  unfold demandTaken
  split
  · exact rebinds_refuse _ _ s
  · exact .of_same ((bindings_respond ..).trans ((bindings_triggered ..).trans (k _ rfl)))

theorem rebinds_setDemand {outlet complete : Byte} {demand floor : BitVec 16}
    (e : exec (.setDemand outlet demand floor complete) s = .next t) : Rebinds s t := by
  cases e
  refine rebinds_hostRunning _ _ (fun im u => ?_) s
  split
  · exact rebinds_refuse _ _ u
  split
  · exact rebinds_refuse _ _ u
  split
  · exact rebinds_demandTaken im 0 0 fun _ => bindings_takeComplete
  · exact rebinds_demandTaken im _ _ fun _ => bindings_takeDemand

theorem rebinds_closeSession {outlet : Byte} (e : exec (.closeSession outlet) s = .next t) : Rebinds s t := by
  cases e
  refine rebinds_hostRunning _ _ (fun im u => ?_) s
  split
  · exact rebinds_refuse _ _ u
  split
  · exact rebinds_refuse _ _ u
  split
  · exact ((rebinds_acceptClose im ‹_›).after (bindings_triggered ..)).respond _ _ _
  · exact rebinds_refuse _ _ u

theorem rebinds_recordRelease (e : exec .recordRelease s = .next t) : Rebinds s t := by
  cases e
  refine rebinds_hostRunning _ _ (fun im u => ?_) s
  split
  · exact rebinds_refuse _ _ u
  · rename_i rest _
    have taken : bindings { u with stu.queue := rest } = bindings u := rfl
    exact (((rebinds_serveSettleWait _).before taken).after (bindings_outletEvent ..)).respond _ _ _

theorem rebinds_restart (e : exec .restart s = .next t) : Rebinds s t := by
  cases e
  refine rebinds_hostRunning _ _ (fun im u => ?_) s
  split
  · unfold beginLeave
    split
    · exact .of_same rfl
    · exact (rebinds_reinitialise _).before (bindings_respond ..)
  · exact rebinds_refuse _ _ u

-- The rows of the grants and of the outlets (spec/04, spec/05) that are more than one change at their outlet.

theorem rebinds_riseHoldExpiry (e : exec .riseHoldExpiry s = .next t) : Rebinds s t := by
  cases e
  refine rebinds_whenRunning fun im => .ite fun _ => ?_
  dsimp only
  split
  · exact .of_same ((bindings_noted ..).trans (bindings_evaluateRises ..))
  · exact .of_same rfl

theorem rebinds_confirmation {o : Outlet} (e : exec (.confirmation o) s = .next t) : Rebinds s t := by
  cases e
  refine rebinds_whenFitted fun im => .ite_not fun _ => ?_
  have high : bindings (s.modOut o settledHigh) = bindings s := bindings_modOut rfl
  have lowered : bindings (confirmDecrease im o (s.modOut o settledHigh)) = bindings s :=
    (bindings_releaseRises ..).trans ((bindings_noted ..).trans ((bindings_modOut rfl).trans high))
  dsimp only
  split
  · exact ((rebinds_reportOutput im o _).before lowered).after (bindings_outletEvent ..)
  · exact .of_same high

theorem rebinds_parkHoldExpiry {o : Outlet} (e : exec (.parkHoldExpiry o) s = .next t) : Rebinds s t := by
  cases e
  refine rebinds_whenFitted fun im => ?_
  split
  · exact .of_same (bindings_modOut rfl)
  · exact .refl s
  · exact .refl s

theorem rebinds_feedbackOpen {o : Outlet} (e : exec (.feedbackOpen o) s = .next t) : Rebinds s t := by
  cases e
  exact rebinds_whenFitted fun im => .ite fun _ =>
    ((rebinds_feedbackOpened im o _).before (bindings_modOut rfl)).after (bindings_outletEvent ..)

theorem rebinds_closeTimerExpiry {o : Outlet} (e : exec (.closeTimerExpiry o) s = .next t) : Rebinds s t := by
  cases e
  exact rebinds_whenFitted fun im => .ite fun _ =>
    ((rebinds_completeClose o _).before (bindings_modOut rfl)).after (bindings_outletEvent ..)

/-- A timer that trips its outlet at its end, stopped before the trip (R75, R97, R101). -/
theorem bindings_tripEvent_modOut (im : Image) {o : Outlet} {f : OutletState → OutletState} (cause : TripCause)
    (h : bindingOf (f (s.out o)) = bindingOf (s.out o)) : bindings (tripEvent im o cause (s.modOut o f)) = bindings s :=
  (bindings_tripEvent ..).trans (bindings_modOut h)

theorem rebinds_meterPulse {o : Outlet} (e : exec (.meterPulse o) s = .next t) : Rebinds s t := by
  cases e
  refine rebinds_whenFitted fun im => .ite_not fun _ => ?_
  have active : bindings (s.modOut o fun u => { u with mtf.pulse := recognise true u.mtf.pulse }) = bindings s := bindings_modOut rfl
  dsimp only
  split
  · exact .of_same ((bindings_billPulse ..).trans active)
  · exact .of_same ((bindings_raise ..).trans ((bindings_modOut rfl).trans active))

theorem rebinds_dwellMinute {o : Outlet} (e : exec (.dwellMinute o) s = .next t) : Rebinds s t := by
  cases e
  have charged : ∀ r : Accounts × Nat, bindings { s.modOut o (fun u => { u with acc := r.1 }) with draws := r.2 } = bindings s :=
    fun r => bindings_acc o (fun _ => r.1) s
  exact rebinds_whenFitted fun im => .ite fun _ => .of_same (charged _)

-- The rows of the line and the roster (spec/01, spec/02): the end of the LEAVE wait alone resets.

theorem rebinds_leaveCheck (s : State) : Rebinds s (leaveCheck s) := by
  rcases leaveCheck_cases s with ⟨ends, -⟩ | same
  · rw [ends]; exact rebinds_reinitialise s
  · rw [same]; exact .refl s

theorem rebinds_conflictFrame (im : Image) (s : State) : Rebinds s (conflictFrame im s) := by
  unfold conflictFrame
  refine (rebinds_leaveCheck _).before ?_
  split
  · rfl
  · exact bindings_finishRoster ..

theorem rebinds_judgeFrame {im : Image} {bytes : List Byte} {mark malformed : Bool} {deliver : State → State}
    (k : ∀ u, bindings (deliver u) = bindings u) : Rebinds s (judgeFrame im bytes mark malformed deliver s) := by
  rcases judgeFrame_cases im bytes mark malformed deliver s with e | ⟨-, e | e | ⟨-, -, e⟩⟩ <;> rw [e]
  · exact .refl s
  · exact .of_same rfl
  · exact rebinds_conflictFrame im s
  · exact .of_same (k _)

theorem rebinds_onTheLine {c : Instr} (k : onTheLine c = true) (e : exec c s = .next t) : Rebinds s t := by
  cases c with
  | leaveTimerExpiry => cases e; exact rebinds_whenRunning fun im => .ite fun _ => (rebinds_leaveCheck _).before (bindings_slc s _)
  | sharePeriodTick =>
    cases e
    refine rebinds_whenRunning fun im => .of_same ?_
    rw [tickRoster_eq, bindings_computation, bindings_noteUpdate, (rosterOnly_evaluateMode im _).bindings,
      (rosterOnly_rosterTicked im _).bindings, bindings_tickCause]
    rfl
  | quarterPeriodMark =>
    cases e
    refine rebinds_whenRunning fun im => .of_same ?_
    split <;> rfl
  | attemptStart =>
    cases e
    refine rebinds_whenRunning fun im => ?_
    split
    · exact .ite fun _ => .of_same rfl
    all_goals exact .refl s
  | arbitrationLoss =>
    cases e
    refine rebinds_whenRunning fun im => ?_
    split
    · exact (rebinds_leaveCheck _).before (bindings_slc s _)
    all_goals exact .refl s
  | bitError =>
    cases e
    refine rebinds_whenRunning fun im => ?_
    split
    · have aborted : ∀ x : State, bindings x = bindings s → Rebinds s (drivingAbort (leaveCheck x)) :=
        fun x same => ((rebinds_leaveCheck x).before same).after rfl
      refine aborted _ ?_
      split
      · exact bindings_finishRoster ..
      · rfl
    all_goals exact .refl s
  | restTimerExpiry => cases e; exact rebinds_whenRunning fun im => .ite fun _ => .of_same (bindings_finishRoster ..)
  | ownFrameCompletion acknowledged =>
    cases e
    refine rebinds_whenRunning fun im => ?_
    have reported : bindings (reportCompletion im acknowledged (completeFrame s)) = bindings s := by
      unfold reportCompletion
      split
      · exact bindings_finishRoster ..
      · rfl
    split
    · exact .of_same reported
    · exact (rebinds_reinitialise _).before reported
    all_goals exact .refl s
  | stuffViolation => cases e; exact rebinds_whenRunning fun im => .ite fun _ => .of_same rfl
  | announceReceived frame mark =>
    cases e
    refine rebinds_whenRunning fun im => ?_
    dsimp only
    split
    · exact rebinds_judgeFrame fun u => rfl
    · exact rebinds_judgeFrame fun u => (bindings_finishRoster ..).trans (rosterOnly_announceHeard im _ _ _ u).bindings
  | leaveReceived frame mark =>
    cases e
    exact rebinds_whenRunning fun im =>
      rebinds_judgeFrame fun u => (bindings_finishRoster ..).trans (rosterOnly_leaveHeard im _ u).bindings
  | lineIdle => cases e; exact .ite_not fun _ => .of_same rfl
  | frameStartBit =>
    cases e
    refine .ite fun _ => .of_same ?_
    unfold whenRunning
    split <;> rfl
  | _ => cases k

-- The rows of the start-up (spec/10).

theorem rebinds_startsUp {c : Instr} (k : startsUp c = true) (e : exec c s = .next t) : Rebinds s t := by
  cases c with
  | powerOn =>
    cases e
    have reads := (rebinds_powerOnState s).after
      (show bindings { powerOnState s with configured := .loading (some freshRead) } = bindings (powerOnState s) from rfl)
    split
    · exact rebinds_powerOnState s
    · exact reads
  | resetLineAsserted => cases e; exact (rebinds_powerOnState s).after rfl
  | resetLineReleased =>
    simp only [exec, execResetLineReleased] at e
    split at e <;> cases e <;> exact .of_same rfl
  | configurationReadEnd result =>
    simp only [exec, execConfigurationReadEnd] at e
    split at e
    · split at e
      · cases e; exact .of_same rfl
      · split at e <;> cases e
        · exact .of_same (bindings_enterRunning _ s)
        · exact .of_same rfl
    all_goals cases e; exact .refl s
  | passTimeout =>
    simp only [exec, execPassTimeout] at e
    split at e <;> cases e <;> exact .of_same rfl
  | configure image =>
    cases e
    refine rebinds_hostAny _ (fun u => ?_) s
    split
    · exact rebinds_refuse _ _ u
    · exact .refl u
    · split
      · exact rebinds_refuse _ _ u
      · exact .of_same ((bindings_respond ..).trans (bindings_enterRunning _ u))
  | _ => cases k

/-- Every row rebinds the outlets as `Rebinds` says. -/
theorem exec_rebinds (c : Instr) (e : exec c s = .next t) : Rebinds s t := by
  by_cases answers : onlyAnswers c = true
  · exact rebinds_onlyAnswers answers e
  by_cases line : onTheLine c = true
  · exact rebinds_onTheLine line e
  by_cases start : startsUp c = true
  · exact rebinds_startsUp start e
  cases c with
  | openSession => exact rebinds_openSession e
  | setDemand => exact rebinds_setDemand e
  | closeSession => exact rebinds_closeSession e
  | recordRelease => exact rebinds_recordRelease e
  | restart => exact rebinds_restart e
  | riseHoldExpiry => exact rebinds_riseHoldExpiry e
  | confirmation => exact rebinds_confirmation e
  | parkHoldExpiry => exact rebinds_parkHoldExpiry e
  | feedbackOpen => exact rebinds_feedbackOpen e
  | closeTimerExpiry => exact rebinds_closeTimerExpiry e
  | meterPulse => exact rebinds_meterPulse e
  | dwellMinute => exact rebinds_dwellMinute e
  | setpointWordEnd o =>
    cases e
    refine rebinds_whenFitted fun _ => .ite fun _ => .of_same (bindings_modOut ?_)
    unfold endWord
    dsimp only
    split <;> rfl
  | confirmTimeout | mismatchTimerExpiry | startTimerExpiry =>
    cases e
    exact rebinds_whenFitted fun im => .ite fun _ => .of_same (bindings_tripEvent_modOut im _ rfl)
  | eStopAsserted =>
    cases e
    exact rebinds_whenRunning fun im => .ite_not fun _ => .of_same ((bindings_outletEvent ..).trans (bindings_tripBoth ..))
  | eStopReleased => cases e; exact rebinds_whenRunning fun _ => .ite fun _ => .of_same rfl
  | holdChange | feedbackClosed =>
    cases e
    exact rebinds_whenFitted fun im => .ite_not fun _ =>
      .of_same ((bindings_outletEvent ..).trans ((bindings_testStart ..).trans (bindings_modOut rfl)))
  | faultAsserted =>
    cases e
    exact rebinds_whenFitted fun im => .ite_not fun _ =>
      .of_same ((bindings_outletEvent ..).trans ((bindings_trip ..).trans (bindings_modOut rfl)))
  | faultReleased | settledRecognisedLow | pulseRecognisedInactive | noFlow =>
    cases e
    exact rebinds_whenFitted fun _ => .ite fun _ => .of_same (bindings_modOut rfl)
  | tariffClockAdvance => cases e; exact .of_same (bindings_of_outlets (by funext c; cases c <;> rfl) rfl rfl)
  | powerOn | resetLineAsserted | resetLineReleased | configurationReadEnd | passTimeout | configure => exact absurd rfl start
  | pending | chipSelectRise | unknownCommand | nop | status | lineStatus | setClock | outletStatus => exact absurd rfl answers
  | rosterRead | tariffLoad | tariffSelect | tariffRead | recordPeek | events | eventEnable => exact absurd rfl answers
  | _ => exact absurd rfl line

end

/-- 0.1 ms samples the inputs and counts, and binds nothing (R93, R94). -/
theorem bindings_advance (s : State) : bindings (advance s) = bindings s := by
  by_cases running : ∃ im, s.configured = .running im
  · obtain ⟨im, r⟩ := running
    have outlet : ∀ o, bindingOf ((advance s).out o) = bindingOf (s.out o) := fun o => by
      obtain ⟨d, out⟩ := advance_out r o
      rw [out]
      split
      · split
        · obtain ⟨_, _, counted, -⟩ := countOutlet_spec (sampleOutlet im (tenthOutlet im (s.out o))) d
          rw [counted]; rfl
        · rfl
      · rfl
    exact bindings_of_outlets (by rw [(advance_station r).1]) (outlet .a) (outlet .b)
  · rw [advance_not_running fun im r => running ⟨im, r⟩]
    rfl

theorem step_rebinds {s t : State} (e : step s = .next t) : Rebinds s t := by
  rcases step_next_cases e with rfl | ⟨c, pending, draws, e⟩
  · exact .of_same (bindings_advance s)
  · have queued : bindings { s with pending := pending, draws := draws } = bindings s := rfl
    exact (exec_rebinds c e).before queued

/-- Settles O9: a step rebinds no session that goes on and loads no bank of one (`step_rebinds`), and what it does to a binding keeps R138,
R141 and R145 (`Rebound.boundTo`). -/
theorem boundBankStays : Obligations.BoundBankStays := by
  refine ⟨fun s t kept e => (step_rebinds e).boundBankKept kept, fun s t o bank e before binding after => ?_⟩
  have same : bindingOf (t.out o) = bindingOf (s.out o) := ((step_rebinds e).outlet o).of_session before after
  exact ⟨(congrArg OutletBinding.bank same).trans binding, (step_rebinds e).banks o bank before binding after⟩

end Sys2Proof.Machine
end

section
/-! PROOF. The tariff clock (R147, R148): SET CLOCK with its ranges, and one tick of 1 ms with its carries. -/

namespace Sys2Proof.Machine

section
variable {im : Image} {s : State} (h : Serves im s) {minute : BitVec 16} {seconds : Byte}
include h

theorem exec_setClock_sets (minutes : minute.toNat ≤ 10079) (below : seconds.toNat ≤ 59) :
    exec (.setClock minute seconds) s =
      .next { finishCaptured (.setClock minute seconds) s with
        tru.clock := ⟨true, minute.toNat, seconds.toNat, 0⟩, hpt.held := ⟨.ok, 5, []⟩ } := by
  refine congrArg Host.Outcome.next ((hostRunning_serves h _ _ _).trans ?_)
  rw [if_neg (by omega)]
  rfl

theorem exec_setClock_refused (past : 10079 < minute.toNat ∨ 59 < seconds.toNat) :
    exec (.setClock minute seconds) s =
      .next { finishCaptured (.setClock minute seconds) s with hpt.held := ⟨.badValue, 5, []⟩ } := by
  refine congrArg Host.Outcome.next ((hostRunning_serves h _ _ _).trans ?_)
  rw [if_pos past]
  rfl

end

theorem advanceClock_unset {c : Clock} (unset : c.set = false) : advanceClock c = c := by
  rw [advanceClock, unset]; rfl

/-- The milliseconds of the week that a clock shows. -/
def weekMilli (c : Clock) : Nat := (c.minute * 60 + c.second) * 1000 + c.milli

/-- A clock within its ranges (R147). -/
def ClockInRange (c : Clock) : Prop := c.minute < 10080 ∧ c.second < 60 ∧ c.milli < 1000

/-- A tick of a SET clock is the next millisecond of the week of 604,800,000 (R147). -/
theorem advanceClock_set {c : Clock} (set : c.set = true) (range : ClockInRange c) :
    (advanceClock c).set = true ∧ ClockInRange (advanceClock c) ∧ weekMilli (advanceClock c) = (weekMilli c + 1) % 604800000 := by
  obtain ⟨minute, second, milli⟩ := range
  unfold ClockInRange weekMilli
  rw [advanceClock, set, Bool.not_true, if_neg Bool.false_ne_true]
  split
  · exact ⟨rfl, ⟨minute, second, ‹_›⟩, by dsimp only; omega⟩
  split
  · exact ⟨rfl, ⟨minute, ‹_›, Nat.succ_pos _⟩, by dsimp only; omega⟩
  split
  · exact ⟨rfl, ⟨‹_›, Nat.succ_pos _, Nat.succ_pos _⟩, by dsimp only; omega⟩
  · have ends : (c.minute * 60 + c.second) * 1000 + c.milli + 1 = 604800000 := by omega
    exact ⟨rfl, ⟨Nat.succ_pos _, Nat.succ_pos _, Nat.succ_pos _⟩, by rw [ends, Nat.mod_self]; rfl⟩

/-- Settles O22: SET CLOCK by its two equations, and the tick by `advanceClock_unset` and `advanceClock_set`. -/
theorem tariffClockIsSetAndAdvances : Obligations.TariffClockIsSetAndAdvances := by
  refine ⟨fun _ _ _ _ h => ⟨exec_setClock_sets h, exec_setClock_refused h⟩, fun s => ⟨fun unset => ?_, fun set minute second milli => ?_⟩⟩
  · rw [exec, execTariffClockAdvance, advanceClock_unset unset]
  · obtain ⟨stays, ⟨minute, second, milli⟩, next⟩ := advanceClock_set set ⟨minute, second, milli⟩
    exact ⟨_, rfl, rfl, stays, minute, second, milli, next⟩

end Sys2Proof.Machine
end

section
/-! PROOF. TARIFF LOAD and TARIFF SELECT (R141 to R143, R194): the conditions of a load in their order, and what each command replaces. -/

namespace Sys2Proof.Machine

theorem windowLoads_eq_false {w : Window} :
    windowLoads w = false ↔
      w.enabled = true ∧ (95 < w.first.toNat ∨ 95 < w.last.toNat ∨ w.days = 0 ∨ w.tiers = 0 ∨ w.site = 3) := by
  simp only [windowLoads, Bool.or_eq_false_iff, Bool.and_eq_false_iff, Bool.not_eq_false', decide_eq_false_iff_not, Nat.not_le,
    bne_eq_false_iff_eq, or_assoc]

/-- A bank image is refused for an enabled window outside R141's ranges, and for nothing else. -/
theorem bankLoads_eq_false {b : BankContents} :
    bankLoads b = false ↔ ∃ w ∈ b.windows.toList, w.enabled = true ∧
      (95 < w.first.toNat ∨ 95 < w.last.toNat ∨ w.days = 0 ∨ w.tiers = 0 ∨ w.site = 3) := by
  simp only [bankLoads, List.all_eq_false, Bool.not_eq_true, windowLoads_eq_false]

theorem bankInUse_finishCaptured (c : Instr) (s : State) (bank : Bank) :
    bankInUse (finishCaptured c s) bank = bankInUse s bank := by
  rw [finishCaptured_keeps]; rfl

theorem bank_finishCaptured (c : Instr) (s : State) (bank : Bank) : (finishCaptured c s).tru.bank bank = s.tru.bank bank := by
  rw [finishCaptured_keeps]

section
variable {im : Image} {s : State} (h : Serves im s) {x : Byte}
include h

-- TARIFF LOAD (R141, R142).

section
variable {image : Vector Byte 57}

theorem exec_tariffLoad_unknown (unknown : bankOf x = none) :
    exec (.tariffLoad x image) s = .next (answered (.tariffLoad x image) ⟨.badValue, 11, []⟩ s) := by
  refine congrArg Host.Outcome.next ((hostRunning_serves h _ _ _).trans ?_)
  rw [unknown]
  rfl

variable {bank : Bank} (named : bankOf x = some bank)
include named

theorem exec_tariffLoad_inUse (used : bankInUse s bank = true) :
    exec (.tariffLoad x image) s = .next (answered (.tariffLoad x image) ⟨.bankInUse, 11, []⟩ s) := by
  refine congrArg Host.Outcome.next ((hostRunning_serves h _ _ _).trans ?_)
  simp only [named, bankInUse_finishCaptured, used, if_true]
  rfl

variable (free : bankInUse s bank = false)
include free

theorem exec_tariffLoad_badImage (bad : bankLoads (bankItems image.toList) = false) :
    exec (.tariffLoad x image) s = .next (answered (.tariffLoad x image) ⟨.badValue, 11, []⟩ s) := by
  refine congrArg Host.Outcome.next ((hostRunning_serves h _ _ _).trans ?_)
  simp only [named, bankInUse_finishCaptured, free, bad, Bool.false_eq_true, if_false]
  rfl

theorem exec_tariffLoad_loads (loads : bankLoads (bankItems image.toList) = true) :
    exec (.tariffLoad x image) s =
      .next { answered (.tariffLoad x image) ⟨.ok, 11, []⟩ s with tru := s.tru.load bank (bankItems image.toList) } := by
  refine congrArg Host.Outcome.next ((hostRunning_serves h _ _ _).trans ?_)
  simp only [named, bankInUse_finishCaptured, free, loads, Bool.false_eq_true, if_false, if_true]
  rw [answered, finishCaptured_keeps]
  rfl

end

-- TARIFF SELECT (R143).

theorem exec_tariffSelect_unknown (unknown : bankOf x = none) :
    exec (.tariffSelect x) s = .next (answered (.tariffSelect x) ⟨.badValue, 12, []⟩ s) := by
  refine congrArg Host.Outcome.next ((hostRunning_serves h _ _ _).trans ?_)
  rw [unknown]
  rfl

variable {bank : Bank} (named : bankOf x = some bank)
include named

theorem exec_tariffSelect_empty (empty : s.tru.bank bank = none) :
    exec (.tariffSelect x) s = .next (answered (.tariffSelect x) ⟨.badValue, 12, []⟩ s) := by
  refine congrArg Host.Outcome.next ((hostRunning_serves h _ _ _).trans ?_)
  simp only [named, bank_finishCaptured, empty, Option.isSome_none, Bool.false_eq_true, if_false]
  rfl

theorem exec_tariffSelect_selects (loaded : s.tru.bank bank ≠ none) :
    exec (.tariffSelect x) s =
      .next { finishCaptured (.tariffSelect x) s with tru.selected := bank, hpt.held := ⟨.ok, 12, []⟩ } := by
  refine congrArg Host.Outcome.next ((hostRunning_serves h _ _ _).trans ?_)
  simp only [named, bank_finishCaptured, Option.isSome_iff_ne_none.mpr loaded, if_true]
  rfl

end

/-- Settles O23: the conditions of a load in their order, each by its `exec_tariffLoad_` lemma, and a selection by the bank it names. -/
theorem banksAreLoadedAndSelected : Obligations.BanksAreLoadedAndSelected := by
  refine ⟨fun im s x image h => ⟨fun above => exec_tariffLoad_unknown h (bankOf_eq_none above), fun bank named => ?_⟩,
    fun im s x h => ⟨fun above => exec_tariffSelect_unknown h (bankOf_eq_none above),
      fun bank named => ⟨exec_tariffSelect_empty h named, exec_tariffSelect_selects h named⟩⟩⟩
  refine ⟨fun used => exec_tariffLoad_inUse h named (bankInUse_iff.mpr used), fun unused bad => ?_, fun unused good => ?_⟩
  all_goals have free : bankInUse s bank = false := Bool.eq_false_iff.mpr fun used => unused (bankInUse_iff.mp used)
  · exact exec_tariffLoad_badImage h named free (bankLoads_eq_false.mpr bad)
  · have loads : bankLoads (bankItems image.toList) = true := Bool.not_eq_false _ ▸ fun no => good (bankLoads_eq_false.mp no)
    refine (exec_tariffLoad_loads h named free loads).trans ?_
    cases bank <;> rfl

end Sys2Proof.Machine
end

section
/-! PROOF. The price lookup (R149 to R153): the windows that match, how many of them decide what, and what the outlet keeps of it. -/

namespace Sys2Proof.Machine

/-- A window fits the key of a lookup (R151). -/
def Fits (w : Window) (slot : Nat) (weekend : Bool) (tier : Nat) (busy : Bool) : Prop :=
  w.enabled = true ∧
    (if w.first.toNat ≤ w.last.toNat then w.first.toNat ≤ slot ∧ slot ≤ w.last.toNat
      else w.first.toNat ≤ slot ∨ slot ≤ w.last.toNat) ∧
    w.days.getLsbD (if weekend then 1 else 0) = true ∧ w.tiers.getLsbD tier = true ∧
    (w.site = 0 ∨ (w.site = 1 ∧ busy = false) ∨ (w.site = 2 ∧ busy = true))

/-- The range of slots with its wrap past midnight (R140). -/
theorem coversSlot_iff {w : Window} {slot : Nat} :
    coversSlot w slot = true ↔
      if w.first.toNat ≤ w.last.toNat then w.first.toNat ≤ slot ∧ slot ≤ w.last.toNat
      else w.first.toNat ≤ slot ∨ slot ≤ w.last.toNat := by
  unfold coversSlot
  split
  · rw [Bool.and_eq_true, decide_eq_true_eq, decide_eq_true_eq]
  · rw [Bool.or_eq_true, decide_eq_true_eq, decide_eq_true_eq]

theorem fitsSite_iff {code : SiteCode} {busy : Bool} :
    fitsSite code busy = true ↔ code = 0 ∨ (code = 1 ∧ busy = false) ∨ (code = 2 ∧ busy = true) := by
  simp only [fitsSite, Bool.or_eq_true, Bool.and_eq_true, beq_iff_eq, Bool.not_eq_true', or_assoc]

theorem windowMatches_iff {w : Window} {slot : Nat} {weekend : Bool} {tier : Nat} {busy : Bool} :
    windowMatches w slot weekend tier busy = true ↔ Fits w slot weekend tier busy := by
  simp only [windowMatches, Fits, Bool.and_eq_true, coversSlot_iff, fitsSite_iff, and_assoc]

section
variable {bank : BankContents} {slot : Nat} {weekend : Bool} {tier : Nat} {busy : Bool}

/-- The indexes that a lookup counts are those of the windows that fit. -/
theorem mem_matching {n : Nat} :
    n ∈ matching bank slot weekend tier busy ↔ ∃ i : Fin 8, i = n ∧ Fits bank.windows[i] slot weekend tier busy := by
  have at_index : ∀ i : Fin 8, bank.windows.toList[(i : Nat)]? = some bank.windows[i] := fun i => by simp
  rw [matching, List.mem_filter, List.mem_range]
  constructor
  · rintro ⟨below, fits⟩
    rw [at_index ⟨n, below⟩] at fits
    exact ⟨⟨n, below⟩, rfl, windowMatches_iff.mp fits⟩
  · rintro ⟨i, rfl, fits⟩
    rw [at_index i]
    exact ⟨i.isLt, windowMatches_iff.mpr fits⟩

theorem matching_nodup : (matching bank slot weekend tier busy).Nodup := List.nodup_range.filter _

theorem windowPrice_fin (i : Fin 8) : windowPrice bank i = (bank.windows[i]).price.toNat := by
  simp [windowPrice]

end

-- What the count of matching windows decides (R152).

section
variable {bank : BankContents} {xs : List Nat}

theorem outcomeOf_none (none : ∀ i, i ∉ xs) : outcomeOf bank xs = ⟨.noWindow, bank.fallback.toNat, .fallback⟩ := by
  rw [List.eq_nil_iff_forall_not_mem.mpr none]; rfl

theorem outcomeOf_one {i : Nat} (once : xs.Nodup) (mem : i ∈ xs) (only : ∀ j ∈ xs, j = i) :
    outcomeOf bank xs = ⟨.found, windowPrice bank i, .window i⟩ := by
  match xs with
  | [] => nomatch mem
  | [j] => obtain rfl := only j List.mem_cons_self; rfl
  | j :: k :: rest =>
    have same : j = k := (only j (by simp)).trans (only k (by simp)).symm
    exact absurd (same ▸ List.mem_cons_self) (List.nodup_cons.mp once).1

theorem outcomeOf_two {i j : Nat} (apart : i ≠ j) (one : i ∈ xs) (other : j ∈ xs) :
    outcomeOf bank xs = ⟨.overlap, bank.fallback.toNat, .fallback⟩ := by
  match xs with
  | [] => nomatch one
  | [k] => exact absurd ((List.mem_singleton.mp one).trans (List.mem_singleton.mp other).symm) apart
  | _ :: _ :: _ => rfl

end

theorem isTariffFault_iff {x : Lookup} : isTariffFault x = true ↔ x ∈ [.noWindow, .overlap, .clockUnset] := by
  cases x <;> simp [isTariffFault]

theorem lookup_unset {clock : Clock} (unset : clock.set = false) (im : Image) (busy : Bool) (tier : Nat) (bank : BankContents) :
    lookup im clock busy tier bank = ⟨.clockUnset, bank.fallback.toNat, .fallback⟩ := by
  rw [lookup, unset]; rfl

/-- A lookup by a SET clock is decided by the windows that fit its minute of the week (R149, R151). -/
theorem lookup_set {clock : Clock} (set : clock.set = true) (im : Image) (busy : Bool) (tier : Nat) (bank : BankContents) :
    lookup im clock busy tier bank =
      outcomeOf bank (matching bank (slotOf clock.minute) (onWeekend im clock.minute) tier busy) := by
  rw [lookup, set]; rfl

/-- Settles O46: the outcome of a SET clock's lookup by the windows that fit (`mem_matching`), which are none, one or more. -/
theorem lookupFindsTheOneWindow : Obligations.LookupFindsTheOneWindow := by
  refine ⟨fun _ => isTariffFault_iff, fun p t => ?_, fun im clock busy tier bank =>
    ⟨fun unset => lookup_unset unset im busy tier bank, fun set => ?_⟩⟩
  · simp only [recordLookup, beq_eq_decide]
  · rw [lookup_set set]
    refine ⟨fun none => outcomeOf_none fun n mem => ?_, fun i fits only => ?_, fun i j apart fits fits' => ?_⟩
    · obtain ⟨i, -, fits⟩ := mem_matching.mp mem
      exact none i fits
    · rw [← windowPrice_fin i]
      refine outcomeOf_one matching_nodup (mem_matching.mpr ⟨i, rfl, fits⟩) fun n mem => ?_
      obtain ⟨j, rfl, fits'⟩ := mem_matching.mp mem
      rw [only j fits']
    · exact outcomeOf_two (fun same => apart (Fin.ext same)) (mem_matching.mpr ⟨i, rfl, fits⟩) (mem_matching.mpr ⟨j, rfl, fits'⟩)

end Sys2Proof.Machine
end

section
/-! PROOF. The bank image (R141, R142, R144, Tables 25 and 26): the bytes of a bank, read back field by field and window by window. -/

namespace Sys2Proof.Machine

theorem word16_extractLsb (w : BitVec 16) : word16 (w.extractLsb' 8 8) (w.extractLsb' 0 8) = w :=
  (BitVec.extractLsb'_append_extractLsb'_eq_extractLsb' (len₁ := 8) (len₂ := 8) rfl).trans BitVec.extractLsb'_eq_self

-- One window (Table 26).

/-- The first byte of a window: the enabled mark, the site condition and the day set, with bits 4 to 2 sent 0. -/
theorem windowHead_reads (enabled : Bool) (site days : BitVec 2) :
    let head : Byte := (if enabled then 128 else 0) ||| (site.setWidth 8 <<< 5) ||| days.setWidth 8
    head.getLsbD 7 = enabled ∧ head.extractLsb' 5 2 = site ∧ head.extractLsb' 0 2 = days := by
  revert enabled site days
  decide

theorem tiers_extractLsb (tiers : BitVec 4) : (tiers.setWidth 8).extractLsb' 0 4 = tiers := by
  revert tiers
  decide

theorem windowAt_windowBytes (w : Window) (rest : List Byte) : windowAt (windowBytes w ++ rest) 0 = w := by
  obtain ⟨enabled, site, days, first, last, tiers, price⟩ := w
  obtain ⟨mark, code, set⟩ := windowHead_reads enabled site days
  simp only [windowAt, windowBytes, bytes16, List.cons_append, List.nil_append, List.getD_cons_zero, List.getD_cons_succ, Nat.zero_add,
    mark, code, set, tiers_extractLsb, word16_extractLsb]

theorem windowBytes_length (w : Window) : (windowBytes w).length = 6 := rfl

theorem windowAt_drop (l : List Byte) (n : Nat) : windowAt (l.drop n) 0 = windowAt l n := by
  simp only [windowAt, List.getD_eq_getElem?_getD, List.getElem?_drop, Nat.zero_add, Nat.add_zero]

/-- Each window takes six bytes, so the bytes past the first `n` windows are those of the rest. -/
theorem drop_windows (ws : List Window) (n : Nat) : (ws.flatMap windowBytes).drop (6 * n) = (ws.drop n).flatMap windowBytes := by
  induction n generalizing ws with
  | zero => rfl
  | succ n ih =>
    cases ws with
    | nil => rfl
    | cons w ws =>
      rw [List.drop_succ_cons, ← ih ws, List.flatMap_cons, Nat.mul_succ, Nat.add_comm, ← List.drop_drop]
      rfl

theorem windowAt_windows {ws : List Window} {n : Nat} (h : n < ws.length) :
    windowAt ((ws.flatMap windowBytes).drop (6 * n)) 0 = ws[n] := by
  rw [drop_windows, List.drop_eq_getElem_cons h, List.flatMap_cons, windowAt_windowBytes]

-- The bank (Table 25).

theorem bankBytes_length (b : BankContents) : (bankBytes b).length = 57 := by
  simp only [bankBytes, List.length_append, bytes16_length, List.length_flatMap, windowBytes_length, List.map_const', List.sum_replicate,
    Vector.length_toList, List.length_singleton]
  rfl

/-- The windows stand past the nine bytes of the bank's own values. -/
theorem bankBytes_drop (b : BankContents) (n : Nat) :
    (bankBytes b).drop (9 + n) = (b.windows.toList.flatMap windowBytes).drop n := by
  rw [← List.drop_drop]; rfl

theorem windowAt_bankBytes (b : BankContents) {n : Nat} (h : n < 8) : windowAt (bankBytes b) (9 + 6 * n) = b.windows[n] := by
  rw [← windowAt_drop, bankBytes_drop, windowAt_windows (by simpa using h), Vector.getElem_toList]

theorem bankItems_windows (l : List Byte) {n : Nat} (h : n < 8) : (bankItems l).windows[n] = windowAt l (9 + 6 * n) := by
  match n, h with
  | 0, _ | 1, _ | 2, _ | 3, _ | 4, _ | 5, _ | 6, _ | 7, _ => rfl

/-- The values of a bank beside its windows are read back from the first nine bytes. -/
theorem bankItems_bankBytes (b : BankContents) : bankItems (bankBytes b) = { b with windows := (bankItems (bankBytes b)).windows } := by
  simp only [bankItems, BankContents.mk.injEq, and_true]
  exact ⟨word16_extractLsb b.version, word16_extractLsb b.sessionFee, word16_extractLsb b.occupancyFee, rfl,
    word16_extractLsb b.fallback⟩

/-- Settles O60: the nine bytes of the bank's own values by `bankItems_bankBytes`, and each window by its six (`windowAt_bankBytes`). -/
theorem bankImagesReadAsLoaded : Obligations.BankImagesReadAsLoaded := by
  intro b
  have windows : (bankItems (bankBytes b)).windows = b.windows := Vector.ext fun n h =>
    (bankItems_windows _ h).trans (windowAt_bankBytes b h)
  exact ⟨bankBytes_length b, by rw [bankItems_bankBytes, windows]⟩

end Sys2Proof.Machine
end

section
/-! PROOF. The record of a session (R115, R168 to R172), and a completed dwell minute (R166, R167). -/

namespace Sys2Proof.Machine

theorem totalOf_eq (running : Nat) : totalOf running = (running + 5000) / 10000 := rfl

/-- The largest running total (R162) settles at the largest total of a record. -/
theorem totalOf_le {running : Nat} (h : running ≤ 1099511627775) : totalOf running ≤ 109951163 := by
  rw [totalOf_eq]
  omega

theorem endCause_of_trip {c : Osc} {cause : TripCause} (trip : c.tripCause = some cause) : endCause c = .tripped cause := by
  rw [endCause, trip]

theorem endCause_of_close {c : Osc} (untripped : c.tripCause = none) :
    endCause c = match c.closeOrigin with
      | .starting => .aborted
      | .other => .hostClose := by
  rw [endCause, untripped]
  cases c.closeOrigin <;> rfl

theorem capped_buildRecord {o : Outlet} {u : OutletState} :
    (buildRecord o u).capped = true ↔ u.acc.capped = true ∨ 0 < (buildRecord o u).uncollected := by
  rw [buildRecord, Bool.or_eq_true, decide_eq_true_iff]

/-- R170: what a record is built with is settled within the hold. -/
theorem recordSettled_buildRecord (o : Outlet) (u : OutletState) : RecordSettled (buildRecord o u) :=
  ⟨Nat.min_le_right .., Nat.add_sub_of_le (Nat.min_le_left ..)⟩

/-- Settles O35: the fields of `buildRecord`, with the arithmetic of `totalOf` and the order of `endCause`. -/
theorem recordSettlesWithinTheHold : Obligations.RecordSettlesWithinTheHold := by
  intro o u r
  obtain ⟨within, -⟩ := recordSettled_buildRecord o u
  refine ⟨totalOf_eq _, rfl, rfl, within, rfl, capped_buildRecord, totalOf_le, ?_⟩
  exact ⟨rfl, rfl, rfl, rfl, rfl, rfl, rfl, rfl, rfl, rfl, rfl, rfl, rfl, rfl, rfl, rfl, rfl, fun _ => endCause_of_trip, endCause_of_close⟩

-- The dwell minute.

theorem bump_of_lt {max n : Nat} (h : n < max) (draws : Nat) : bump max n draws = (n + 1, draws) := if_pos h

/-- The accounts with one more dwell minute completed (R166). -/
def minuteCounted (a : Accounts) : Accounts :=
  { a with dwellMinutes := a.dwellMinutes + 1, dwellClock := 60000 * (a.dwellMinutes + 1) }

/-- A minute within the grace is counted alone, one past it is charged as well (R166). -/
theorem dwellMinute_eq (hold : Nat) (bank : BankContents) {a : Accounts} (range : a.dwellMinutes < 71582) (draws : Nat) :
    dwellMinute hold bank a draws =
      if a.dwellMinutes + 1 ≤ bank.grace.toNat then (minuteCounted a, draws)
      else chargeMinute hold bank.occupancyFee.toNat (minuteCounted a) draws := by
  rw [dwellMinute, maxDwellMinutes, bump_of_lt range]
  rfl

theorem chargeMinute_at_cap {hold fee : Nat} {a : Accounts} {draws : Nat} (cap : hold * 10000 ≤ a.total) :
    chargeMinute hold fee a draws = ({ a with capped := true, stopped := true }, draws) := if_pos cap

theorem chargeMinute_below_cap {hold fee : Nat} {a : Accounts} {draws : Nat} (below : a.total < hold * 10000)
    (range : a.occupancyMinutes < 4294967295) :
    chargeMinute hold fee a draws =
      ({ a with
          occupancyMinutes := a.occupancyMinutes + 1
          occupancyAmount := min 1099511627775 (a.occupancyAmount + fee * 10000)
          total := min 1099511627775 (a.total + fee * 10000)
          saturated := a.saturated || decide (1099511627775 < a.total + fee * 10000) ||
            decide (1099511627775 < a.occupancyAmount + fee * 10000)
          capped := a.capped || decide (hold * 10000 ≤ min 1099511627775 (a.total + fee * 10000))
          stopped := a.stopped || decide (hold * 10000 ≤ min 1099511627775 (a.total + fee * 10000)) },
        draws) := by
  unfold chargeMinute
  rw [max32, bump_of_lt range]
  exact if_neg (Nat.not_le.mpr below)

section
variable {im : Image} {s : State} {o : Outlet} {letter : Bank} {bank : BankContents} (r : s.configured = .running im)
  (fits : fitted im o = true) (dwelling : (s.out o).osc.state = .dwell) (runs : (s.out o).acc.stopped = false)
  (bound : (s.out o).tru.binding = some letter) (loaded : s.tru.bank letter = some bank)
include r fits dwelling runs bound loaded

/-- In DWELL with occupancy running, a minute that draws no free value changes the accounts alone. -/
theorem exec_dwellMinute_accounts {x : Accounts}
    (minute : dwellMinute (s.out o).osc.header.hold bank (s.out o).acc s.draws = (x, s.draws)) :
    exec (.dwellMinute o) s = .next (s.modOut o fun u => { u with acc := x }) := by
  rw [exec, execDwellMinute, whenFitted_running r fits, if_pos (dwells_iff.mpr ⟨dwelling, runs⟩), boundBank_eq bound loaded, minute]
  cases o <;> rfl

end

/-- Settles O48: `dwellMinute` within the grace, and past it `chargeMinute` at the cap and below it. -/
theorem dwellMinuteIsCharged : Obligations.DwellMinuteIsCharged := by
  intro im s o letter bank r fits dwelling runs bound loaded minutes occupied a n cap fee counted total becomes
  have accounts := fun x => exec_dwellMinute_accounts r fits dwelling runs bound loaded (x := x)
  refine ⟨fun grace => accounts _ ?_, fun late capped => accounts _ ?_, fun late below => accounts _ ?_⟩ <;>
    rw [dwellMinute_eq _ bank minutes]
  · exact if_pos grace
  · rw [if_neg (Nat.not_le.mpr late)]
    exact chargeMinute_at_cap capped
  · rw [if_neg (Nat.not_le.mpr late), chargeMinute_below_cap (a := minuteCounted _) below occupied]
    simp only [minuteCounted, runs, Bool.false_or]
    rfl

end Sys2Proof.Machine
end

section
/-! PROOF. The accrual of a pulse (R160 to R163): what becomes of the segment of its key, and of the session. -/

namespace Sys2Proof.Machine

-- The segments.

/-- The segments of a key. -/
def keyed (key : SegmentKey) (gs : List Segment) : List Segment := gs.filter fun g => g.key = key

/-- A pulse is added to the segment of its key, the first one with it, or is a new segment at the list's end. -/
theorem addToSegment_cases (key : SegmentKey) (energy amount : Nat) (gs : List Segment) :
    (key ∉ gs.map Segment.key ∧ segmentAmount key gs = 0 ∧
        addToSegment key energy amount gs = gs ++ [⟨key, energy, satAdd maxAmount 0 amount⟩]) ∨
      ∃ xs g ys, gs = xs ++ g :: ys ∧ key ∉ xs.map Segment.key ∧ g.key = key ∧ segmentAmount key gs = g.amount ∧
        addToSegment key energy amount gs = xs ++ ⟨key, g.energy + energy, satAdd maxAmount g.amount amount⟩ :: ys := by
  induction gs with
  | nil => exact .inl ⟨List.not_mem_nil, rfl, rfl⟩
  | cons g gs ih =>
    by_cases same : g.key = key
    · refine .inr ⟨[], g, gs, rfl, List.not_mem_nil, same, ?_, ?_⟩
      · simp [segmentAmount, same]
      · simp [addToSegment, same]
    · have passed : segmentAmount key (g :: gs) = segmentAmount key gs := by simp [segmentAmount, same]
      have added : addToSegment key energy amount (g :: gs) = g :: addToSegment key energy amount gs := if_neg same
      rw [passed, added]
      rcases ih with ⟨new, zero, e⟩ | ⟨xs, h, ys, rfl, before, own, found, e⟩
      · exact .inl ⟨by simpa [new] using Ne.symm same, zero, by rw [e]; rfl⟩
      · exact .inr ⟨g :: xs, h, ys, rfl, by simpa [before] using Ne.symm same, own, found, by rw [e]; rfl⟩

section
variable (key : SegmentKey) (energy amount : Nat) (gs : List Segment)

theorem keys_addToSegment :
    (addToSegment key energy amount gs).map Segment.key =
      if key ∈ gs.map Segment.key then gs.map Segment.key else gs.map Segment.key ++ [key] := by
  rcases addToSegment_cases key energy amount gs with ⟨new, -, e⟩ | ⟨xs, g, ys, rfl, -, own, -, e⟩ <;> rw [e]
  · rw [if_neg new, List.map_append]
    rfl
  · rw [if_pos (by simp [own])]
    simp [own]

theorem keyed_addToSegment_other {other : SegmentKey} (apart : other ≠ key) :
    keyed other (addToSegment key energy amount gs) = keyed other gs := by
  rcases addToSegment_cases key energy amount gs with ⟨-, -, e⟩ | ⟨xs, g, ys, rfl, -, own, -, e⟩ <;> rw [e]
  · simp [keyed, apart.symm]
  · simp [keyed, own, apart.symm]

theorem energies_addToSegment :
    ((addToSegment key energy amount gs).map Segment.energy).sum = (gs.map Segment.energy).sum + energy := by
  rcases addToSegment_cases key energy amount gs with ⟨-, -, e⟩ | ⟨xs, g, ys, rfl, -, -, -, e⟩ <;> rw [e] <;>
    simp only [List.map_append, List.map_cons, List.map_nil, List.sum_append, List.sum_cons, List.sum_nil]
  · rfl
  · omega

theorem energies_keyed_addToSegment :
    ((keyed key (addToSegment key energy amount gs)).map Segment.energy).sum = ((keyed key gs).map Segment.energy).sum + energy := by
  rcases addToSegment_cases key energy amount gs with ⟨-, -, e⟩ | ⟨xs, g, ys, rfl, -, own, -, e⟩ <;> rw [e]
  · simp [keyed]
  · simp only [keyed, List.filter_append, List.filter_cons, own, decide_true, if_true, List.map_append, List.map_cons, List.sum_append,
      List.sum_cons]
    omega

theorem keyed_eq_nil {xs : List Segment} {key : SegmentKey} (absent : key ∉ xs.map Segment.key) : keyed key xs = [] := by
  refine List.filter_eq_nil_iff.mpr fun g listed => ?_
  rw [decide_eq_true_iff]
  exact fun same => absent (List.mem_map.mpr ⟨g, listed, same⟩)

/-- With one segment for a key, its amount is the key's, before the pulse and after it. -/
theorem amounts_keyed_addToSegment (once : (gs.map Segment.key).Nodup) :
    ((keyed key gs).map Segment.amount).sum = segmentAmount key gs ∧
      ((keyed key (addToSegment key energy amount gs)).map Segment.amount).sum =
        satAdd maxAmount (segmentAmount key gs) amount := by
  rcases addToSegment_cases key energy amount gs with ⟨new, zero, e⟩ | ⟨xs, g, ys, rfl, before, own, found, e⟩
  · have added : keyed key (gs ++ [⟨key, energy, satAdd maxAmount 0 amount⟩]) = [⟨key, energy, satAdd maxAmount 0 amount⟩] := by
      rw [keyed, List.filter_append, ← keyed, keyed_eq_nil new]
      simp
    rw [e, zero, keyed_eq_nil new, added]
    exact ⟨rfl, Nat.add_zero _⟩
  · have after : key ∉ ys.map Segment.key := by
      rw [List.map_append, List.map_cons, own, List.nodup_append] at once
      exact (List.nodup_cons.mp once.2.1).1
    rw [e, found, keyed, keyed, List.filter_append, List.filter_append, List.filter_cons, List.filter_cons, ← keyed, ← keyed,
      keyed_eq_nil before, keyed_eq_nil after]
    simp [own]

end

-- The session.

section
variable {weight fee : Nat} {p : Priced} {a : Accounts}

/-- Past the energy limit the pulse adds nothing (R161). -/
theorem accrue_past_limit (past : 4294967295 < a.energy + weight) :
    accrue weight fee p a = { a with saturated := true, tariffFault := a.tariffFault || isTariffFault p.outcome } := by
  rw [accrue, max32, if_pos past]

/-- Within the energy limit (R160 steps 2 to 5, R162): the first pulse brings the session fee with it (R163). -/
theorem accrue_within_limit (within : a.energy + weight ≤ 4294967295) :
    accrue weight fee p a =
      { a with
        segments := addToSegment p.segment weight (weight * p.price) a.segments
        energy := a.energy + weight
        feeApplied := if a.energy = 0 then fee else a.feeApplied
        total := min 1099511627775 (min 1099511627775 (a.total + weight * p.price) + if a.energy = 0 then fee * 10000 else 0)
        saturated := a.saturated || overflows a.total (weight * p.price) ||
          overflows (segmentAmount p.segment a.segments) (weight * p.price) ||
          (decide (a.energy = 0) && overflows (min 1099511627775 (a.total + weight * p.price)) (fee * 10000))
        tariffFault := a.tariffFault || isTariffFault p.outcome } := by
  rw [accrue, max32, if_neg (Nat.not_lt.mpr within)]
  by_cases first : a.energy = 0
  · simp only [if_pos first, decide_eq_true first, Bool.true_and]
    rfl
  · simp only [if_neg first, decide_eq_false first, Bool.false_and, Bool.or_false, Nat.add_zero, ← min_assoc, min_self]
    rfl

end

theorem overflows_iff {n k : Nat} : overflows n k = true ↔ 1099511627775 < n + k := decide_eq_true_iff

/-- Settles O47: `accrue_past_limit`, and `accrue_within_limit` with what becomes of the segment of the key. -/
theorem accrualAddsThePulse : Obligations.AccrualAddsThePulse := by
  intro weight fee p a t limit price keys energyOf amountOf first
  refine ⟨accrue_past_limit, fun within => ?_⟩
  have accrued : t = _ := accrue_within_limit within
  have segments : t.segments = addToSegment p.segment weight price a.segments := by rw [accrued]
  have energy : energyOf t = energyOf a + weight := by
    refine Eq.trans (congrArg (fun gs => ((keyed p.segment gs).map Segment.energy).sum) segments) ?_
    exact energies_keyed_addToSegment ..
  have key_list : keys t = if p.segment ∈ keys a then keys a else keys a ++ [p.segment] := by
    refine Eq.trans (congrArg (fun gs => gs.map Segment.key) segments) ?_
    exact keys_addToSegment ..
  refine ⟨by rw [accrued], energy, fun once => ?_, key_list, fun k apart => ?_, by rw [accrued], by rw [accrued], ?_, by rw [accrued]⟩
  · obtain ⟨amount, added⟩ := amounts_keyed_addToSegment p.segment weight price a.segments once
    have amounts : amountOf a = segmentAmount p.segment a.segments := amount
    refine ⟨?_, ?_⟩ <;> rw [amounts]
    · exact (congrArg (fun gs => ((keyed p.segment gs).map Segment.amount).sum) segments).trans added
    · rw [accrued]
      simp only [Bool.or_eq_true, Bool.and_eq_true, decide_eq_true_iff, overflows_iff, or_assoc]
      exact Iff.rfl
  · rw [segments]
    exact keyed_addToSegment_other _ _ _ _ apart
  · rw [accrued, Bool.or_eq_true]

end Sys2Proof.Machine
end

section
/-! PROOF. RECORD RELEASE (R177) and the settle-wait order it serves (R117). -/

namespace Sys2Proof.Machine

/-- The queue without its oldest record (R177). -/
def dropOldest (rest : List Record) (s : State) : State := { s with stu.queue := rest }

theorem dropOldest_out (rest : List Record) (s : State) (o : Outlet) : (dropOldest rest s).out o = s.out o := by cases o <;> rfl

section
variable {im : Image} {s : State} (h : Serves im s)
include h

theorem exec_recordRelease_empty (empty : s.stu.queue = []) :
    exec .recordRelease s = .next (answered .recordRelease ⟨.queueEmpty, 15, []⟩ s) := by
  refine congrArg Host.Outcome.next ((hostRunning_serves h _ _ _).trans ?_)
  obtain ⟨x, kept⟩ := finishCaptured_captured .recordRelease s
  simp only [answered, kept, empty]
  rfl

/-- The oldest record leaves the queue, and an outlet that waits is served (R117, R177). -/
theorem exec_recordRelease_oldest {r : Record} {rest : List Record} (oldest : s.stu.queue = r :: rest) :
    exec .recordRelease s =
      .next { outletEvent im (finishCaptured .recordRelease s) (serveSettleWait (dropOldest rest (finishCaptured .recordRelease s))) with
        hpt.held := ⟨.ok, 15, bytes16 r.sequence ++ be 1 rest.length⟩ } := by
  refine congrArg Host.Outcome.next ((hostRunning_serves h _ _ _).trans ?_)
  obtain ⟨x, kept⟩ := finishCaptured_captured .recordRelease s
  simp only [kept, oldest]
  rfl

end

theorem serveSettleWait_nil {s : State} (nobody : s.stu.settleWait = []) : serveSettleWait s = s := by
  rw [serveSettleWait, nobody]

/-- The outlet that is served (R117): IDLE, with no record held and no grant. -/
def servedOutlet (u : OutletState) : OutletState :=
  grantless { u with osc := { u.osc with state := .idle }, heldRecord := none }

/-- The head of the settle-wait order IDLE, with its record in the queue (R117, R174). -/
def headIdle (o : Outlet) (rest : List Outlet) (r : Record) (s : State) : State :=
  setSession o .idle ((enterQueue r { s with stu.settleWait := rest }).modOut o fun u => { u with heldRecord := none })

/-- What the served outlet does besides entering its record (R117). -/
theorem eventAt_headIdle_of_queued (o : Outlet) (rest : List Outlet) (r : Record) (s : State) :
    EventAt o (enterQueue r { s with stu.settleWait := rest }) (headIdle o rest r s) :=
  (eventAt_own o _ _).trans (eventAt_setSession o .idle _)

theorem eventAt_headIdle (o : Outlet) (rest : List Outlet) (r : Record) (s : State) :
    EventAt o { s with stu := ⟨s.stu.queue ++ [{ r with sequence := s.stu.counter }], s.stu.counter + 1, rest⟩ } (headIdle o rest r s) :=
  (eventAt_enterQueue o r { s with stu.settleWait := rest }).trans (eventAt_headIdle_of_queued o rest r s)

section
variable {s : State} {o : Outlet} {rest : List Outlet} {r : Record} (order : s.stu.settleWait = o :: rest)
  (held : (s.out o).heldRecord = some r)
include order held

theorem serveSettleWait_held : serveSettleWait s = clearGrants o (headIdle o rest r s) := by
  rw [serveSettleWait_cons order, headServed, held]
  rfl

theorem out_serveSettleWait : (serveSettleWait s).out o = servedOutlet (s.out o) := by
  rw [serveSettleWait_held order held, clearGrants_out, headIdle, setSession_out, out_modOut, out_enterQueue]
  cases o <;> rfl

theorem eventAt_serveSettleWait :
    EventAt o
      { s with
        stu := ⟨s.stu.queue ++ [{ r with sequence := s.stu.counter }], s.stu.counter + 1, rest⟩
        grl.order := s.grl.order.filter fun x => x != o }
      (serveSettleWait s) := by
  have idle := eventAt_headIdle o rest r s
  have cleared := eventAt_clearGrants o (headIdle o rest r s)
  have kept : (headIdle o rest r s).grl.order = s.grl.order := by rw [idle.1]
  rw [kept, ← serveSettleWait_held order held] at cleared
  exact (idle.with_order _).trans cleared

theorem flagSet_serveSettleWait :
    (serveSettleWait s).flagSet (changeFlag o) = true ∧ (s.stu.queue = [] → (serveSettleWait s).flagSet .recordReady = true) ∧
      (s.stu.queue.length = 7 → (serveSettleWait s).flagSet .queueFull = true) := by
  obtain ⟨ready, full⟩ := flagSet_enterQueue r { s with stu.settleWait := rest }
  have idle := eventAt_headIdle_of_queued o rest r s
  have kept : ∀ f, (serveSettleWait s).flagSet f = (headIdle o rest r s).flagSet f := fun f => by
    rw [serveSettleWait_held order held]
    exact flagSet_of_flags (by rw [clearGrants_hpt]) f
  refine ⟨?_, fun empty => ?_, fun seven => ?_⟩ <;> rw [kept]
  · exact flagSet_setSession_same ..
  · exact idle.flagSet (ready empty)
  · exact idle.flagSet (full seven)

/-- The outlet leaves SETTLE_WAIT, which triggers a computation that finds it with no claim (R46, R117). -/
theorem outletEvent_serveSettleWait {im : Image} (fits : fitted im o = true) {before : State}
    (was : (before.out o).osc.state = .settleWait) :
    EventAt o (serveSettleWait s) (outletEvent im before (serveSettleWait s)) ∧
      (outletEvent im before (serveSettleWait s)).out o = shareless (servedOutlet (s.out o)) := by
  have own := out_serveSettleWait order held
  have changed : sessions (serveSettleWait s) ≠ sessions before := fun same => by
    have state := state_of_sessions same o
    rw [own, was] at state
    nomatch state
  refine ⟨eventAt_outletEvent im o before _, ?_⟩
  rw [outletEvent, if_neg changed, out_triggered_of_claimless fits, own]
  rw [own]
  exact ⟨nofun, nofun⟩

end

/-- Settles O25: with no record an error is answered; with no outlet waiting the oldest record goes; and the first that waits is served
(`eventAt_serveSettleWait`, `outletEvent_serveSettleWait`). -/
theorem recordReleaseServesTheNextOutlet : Obligations.RecordReleaseServesTheNextOutlet := by
  intro im s serves u
  refine ⟨exec_recordRelease_empty serves, fun r rest oldest => ?_⟩
  intro answer
  have keeps := finishCaptured_keeps .recordRelease s
  have runs := exec_recordRelease_oldest serves oldest
  have out : ∀ o, u.out o = s.out o := finishCaptured_out .recordRelease s
  have stu : u.stu = s.stu := by rw [show u = _ from keeps]
  have grl : u.grl = s.grl := by rw [show u = _ from keeps]
  have dropped : ∀ o, (dropOldest rest u).out o = s.out o := fun o => (dropOldest_out rest u o).trans (out o)
  have order : (dropOldest rest u).stu.settleWait = s.stu.settleWait := congrArg (fun x => x.settleWait) stu
  refine ⟨fun nobody => ?_, fun o waiting h first held waits fits => ?_⟩
  · have ends : outletEvent im (finishCaptured .recordRelease s) (dropOldest rest u) = dropOldest rest u :=
      outletEvent_same im u _ rfl rfl
    rw [runs, serveSettleWait_nil (order.trans nobody), ends]
    rfl
  · have first' := order.trans first
    have held' := (congrArg OutletState.heldRecord (dropped o)).trans held
    have served := eventAt_serveSettleWait first' held'
    obtain ⟨change, ready, full⟩ := flagSet_serveSettleWait first' held'
    obtain ⟨event, after⟩ := outletEvent_serveSettleWait first' held' fits (before := u) (by rw [out]; exact waits)
    have ends := (served.trans event).answered answer
    refine ⟨_, runs, ?_, event.flagSet change, fun empty => event.flagSet (ready empty), fun seven => event.flagSet (full seven), ?_⟩
    · rw [← stu, ← grl]
      exact ends
    · rw [dropped] at after
      cases o <;> exact after

end Sys2Proof.Machine
end

section
/-! SUPPORT. The settlements and accounts that a state keeps (`Ledger`), and what one step may do to them (`Posted`): the numbering of the queue
(R173), the settlement of the records (R169, R170), and the sums of the accounts (R158 to R163). -/

namespace Sys2Proof.Machine

-- The accounts.

/-- The accounts without what no sum of R158 to R163 is made of: the counts of minutes and their clock, and the flags but SATURATED. -/
def figures (a : Accounts) : Accounts :=
  { a with occupancyMinutes := 0, dwellClock := 0, dwellMinutes := 0, stopped := false, tariffFault := false, capped := false }

theorem accountsExact_figures {a : Accounts} : AccountsExact (figures a) ↔ AccountsExact a := Iff.rfl

/-- What may become of the accounts of a session under an image (R158, R160, R167): they are cleared, a pulse is accrued, or an occupancy
minute is charged. -/
inductive Accounted (image : Option Image) (x : Accounts) : Accounts → Prop
  | cleared : Accounted image x .cleared
  | pulse {im : Image} {a : Accounts} {p : Priced} (fee : Nat) (force : image = some im) (same : figures a = x)
      (window : ∀ i, p.segment = .window i → i < 8) : Accounted image x (figures (accrue im.pulseWeight fee p a))
  | minute {a : Accounts} (hold fee draws : Nat) (same : figures a = x) : Accounted image x (figures (chargeMinute hold fee a draws).1)

theorem accountsExact_cleared : AccountsExact .cleared := by
  unfold AccountsExact Accounts.cleared
  exact ⟨List.nodup_nil, nofun, nofun, rfl, by decide, by decide, by decide, fun _ => rfl, fun _ => rfl⟩

/-- What holds of every segment, of a new one and of one that grows holds of them all after a pulse. -/
theorem forall_addToSegment {P : Segment → Prop} {key : SegmentKey} {energy amount : Nat} {gs : List Segment} (all : ∀ g ∈ gs, P g)
    (new : P ⟨key, energy, satAdd maxAmount 0 amount⟩)
    (grown : ∀ g ∈ gs, P ⟨key, g.energy + energy, satAdd maxAmount g.amount amount⟩) :
    ∀ g ∈ addToSegment key energy amount gs, P g := by
  rcases addToSegment_cases key energy amount gs with ⟨-, -, e⟩ | ⟨xs, g, ys, rfl, -, -, -, e⟩ <;> rw [e]
  · exact List.forall_mem_append.mpr ⟨all, List.forall_mem_singleton.mpr new⟩
  · obtain ⟨before, -, after⟩ := by simpa only [List.forall_mem_append, List.forall_mem_cons] using all
    exact List.forall_mem_append.mpr ⟨before, List.forall_mem_cons.mpr ⟨grown g (by simp), after⟩⟩

/-- The segments' amounts grow by that of a pulse that saturates none of them (R162). -/
theorem amounts_addToSegment {key : SegmentKey} {energy amount : Nat} {gs : List Segment}
    (fits : segmentAmount key gs + amount ≤ maxAmount) :
    ((addToSegment key energy amount gs).map Segment.amount).sum = (gs.map Segment.amount).sum + amount := by
  rcases addToSegment_cases key energy amount gs with ⟨-, found, e⟩ | ⟨xs, g, ys, rfl, -, -, found, e⟩ <;> rw [e] <;>
    rw [found] at fits <;>
    simp only [satAdd_of_le fits, List.map_append, List.map_cons, List.map_nil, List.sum_append, List.sum_cons, List.sum_nil] <;>
    omega

theorem nodup_keys_addToSegment {key : SegmentKey} (energy amount : Nat) {gs : List Segment} (once : (gs.map Segment.key).Nodup) :
    ((addToSegment key energy amount gs).map Segment.key).Nodup := by
  rw [keys_addToSegment]
  split
  · exact once
  · exact List.nodup_append_comm.mpr (List.nodup_cons.mpr ⟨‹_›, once⟩)

theorem overflows_eq_false {n k : Nat} : overflows n k = false ↔ n + k ≤ 1099511627775 := by
  rw [overflows, decide_eq_false_iff_not, Nat.not_lt]
  rfl

section
variable {a : Accounts} (h : AccountsExact a)
include h

/-- An accrual of a weight of at least 1 keeps the accounts exact (R160 to R163). -/
theorem AccountsExact.accrue {weight : Nat} (positive : 1 ≤ weight) (fee : Nat) {p : Priced}
    (window : ∀ i, p.segment = .window i → i < 8) : AccountsExact (accrue weight fee p a) := by
  obtain ⟨once, windows, ranges, energies, energyRange, totalRange, occupancyRange, noFee, sum⟩ := h
  by_cases within : a.energy + weight ≤ 4294967295
  · rw [accrue_within_limit within]
    refine ⟨nodup_keys_addToSegment _ _ once, forall_addToSegment windows window fun _ _ => window,
      forall_addToSegment ranges ⟨positive, satAdd_le ..⟩ fun g _ => ⟨by dsimp only; omega, satAdd_le ..⟩, ?_, within,
      Nat.min_le_left .., occupancyRange, fun zero => ?_, fun unmarked => ?_⟩
    · exact (energies_addToSegment ..).trans (congrArg (· + weight) energies)
    · dsimp only at zero
      omega
    · simp only [Bool.or_eq_false_iff, overflows_eq_false, Bool.and_eq_false_iff, decide_eq_false_iff_not] at unmarked
      obtain ⟨⟨⟨unsaturated, totalFits⟩, segmentFits⟩, feeFits⟩ := unmarked
      have total := sum unsaturated
      have amounts := amounts_addToSegment (energy := weight) segmentFits
      dsimp only
      split <;> rename_i first
      · have zero := noFee first
        have fits := feeFits.resolve_left (not_not_intro first)
        omega
      · omega
  · rw [accrue_past_limit (Nat.lt_of_not_le within)]
    exact ⟨once, windows, ranges, energies, energyRange, totalRange, occupancyRange, noFee, nofun⟩

/-- A charged minute keeps the accounts exact (R167). -/
theorem AccountsExact.chargeMinute (hold fee draws : Nat) : AccountsExact (chargeMinute hold fee a draws).1 := by
  obtain ⟨once, windows, ranges, energies, energyRange, totalRange, occupancyRange, noFee, sum⟩ := h
  unfold Machine.chargeMinute
  dsimp only
  split
  · exact ⟨once, windows, ranges, energies, energyRange, totalRange, occupancyRange, noFee, sum⟩
  · refine ⟨once, windows, ranges, energies, energyRange, satAdd_le .., satAdd_le .., noFee, fun unmarked => ?_⟩
    simp only [Bool.or_eq_false_iff, overflows_eq_false] at unmarked
    obtain ⟨⟨unsaturated, totalFits⟩, occupancyFits⟩ := unmarked
    have total := sum unsaturated
    dsimp only
    rw [satAdd_of_le (max := maxAmount) totalFits, satAdd_of_le (max := maxAmount) occupancyFits]
    omega

end

theorem pulseWeight_pos {im : Image} (items : itemsInRange im = true) : 1 ≤ im.pulseWeight := by
  simp only [itemsInRange, Bool.and_eq_true, List.contains_eq_mem, decide_eq_true_eq] at items
  have weights : im.pulseWeight ∈ [1, 2, 5, 10] := by simp_all only
  simp only [List.mem_cons, List.not_mem_nil, or_false] at weights
  omega

theorem Accounted.accountsExact {image : Option Image} {x y : Accounts} (h : Accounted image x y)
    (valid : ∀ im, image = some im → itemsInRange im = true) (k : AccountsExact x) : AccountsExact y := by
  cases h with
  | cleared => exact accountsExact_cleared
  | pulse fee force same window =>
    have before := accountsExact_figures.mp (same ▸ k)
    exact accountsExact_figures.mpr (before.accrue (pulseWeight_pos (valid _ force)) fee window)
  | minute hold fee draws same =>
    have before := accountsExact_figures.mp (same ▸ k)
    exact accountsExact_figures.mpr (before.chargeMinute hold fee draws)

-- The ledger.

/-- What an outlet has of settlements: the record it holds (R117) and its accounts. -/
structure Book where
  held : Option Record
  accounts : Accounts

def bookOf (u : OutletState) : Book := ⟨u.heldRecord, figures u.acc⟩

/-- The image in force. -/
def imageOf : Configured → Option Image
  | .running im => some im
  | .loading _ => none
  | .unconfigured => none

theorem imageOf_eq_some {c : Configured} {im : Image} : imageOf c = some im ↔ c = .running im := by
  cases c <;> simp [imageOf]

/-- The image in force, the settlement queue with its counter, and the book of each outlet. -/
structure Ledger where
  image : Option Image
  queue : List Record
  counter : BitVec 16
  book : Outlet → Book

def ledger (s : State) : Ledger := ⟨imageOf s.configured, s.stu.queue, s.stu.counter, fun o => bookOf (s.out o)⟩

/-- The ledger with a record at the queue's newest end (R174). -/
def Ledger.enter (x : Ledger) (r : Record) : Ledger :=
  { x with queue := x.queue ++ [{ r with sequence := x.counter }], counter := x.counter + 1 }

/-- The ledger with another book of an outlet. -/
def Ledger.withBook (x : Ledger) (o : Outlet) (b : Book) : Ledger := { x with book := Function.update x.book o b }

/-- What one step may do to the ledger: nothing; a record that settles within its hold enters a queue with room, or is held (R116, R174);
the oldest record leaves, and a held one may enter in its place (R117, R177); the accounts of an outlet change; a reset (R203, R210);
and the entry to RUNNING on a valid image (R208). -/
inductive Posted (x : Ledger) : Ledger → Prop
  | nothing : Posted x x
  | entered {r : Record} (room : x.queue.length < 8) (settled : RecordSettled r) : Posted x (x.enter r)
  | held {r : Record} (o : Outlet) (settled : RecordSettled r) : Posted x (x.withBook o { x.book o with held := some r })
  | released {r : Record} {rest : List Record} (oldest : x.queue = r :: rest) : Posted x { x with queue := rest }
  | served {r h : Record} {rest : List Record} {o : Outlet} (oldest : x.queue = r :: rest) (waits : (x.book o).held = some h) :
      Posted x ((Ledger.enter { x with queue := rest } h).withBook o { x.book o with held := none })
  | accounted {o : Outlet} {a : Accounts} (account : Accounted x.image (x.book o).accounts a) :
      Posted x (x.withBook o { x.book o with accounts := a })
  | restarted : Posted x ⟨none, x.queue, x.counter, fun _ => ⟨none, .cleared⟩⟩
  | reset : Posted x ⟨none, [], 0, fun _ => ⟨none, .cleared⟩⟩
  | started {im : Image} (items : itemsInRange im = true) (relations : relationsHold im = true) : Posted x { x with image := some im }

-- R173.

/-- R173: `QueueNumbered` of the ledger. -/
def Ledger.Numbered (x : Ledger) : Prop :=
  x.queue.length ≤ 8 ∧
    ∀ (i : Nat) (r : Record), x.queue[i]? = some r → r.sequence = x.counter - BitVec.ofNat 16 (x.queue.length - i)

theorem queueNumbered_iff {s : State} : QueueNumbered s ↔ (ledger s).Numbered := Iff.rfl

theorem Ledger.Numbered.enter {x : Ledger} (h : x.Numbered) (room : x.queue.length < 8) (r : Record) : (x.enter r).Numbered := by
  obtain ⟨-, numbered⟩ := h
  have length : (x.enter r).queue.length = x.queue.length + 1 := List.length_append
  refine ⟨by omega, fun i q at_i => ?_⟩
  rw [length]
  change q.sequence = x.counter + 1 - _
  rcases Nat.lt_trichotomy i x.queue.length with older | rfl | beyond
  · have before : x.queue[i]? = some q := (List.getElem?_append_left older).symm.trans at_i
    have more : BitVec.ofNat 16 (x.queue.length + 1 - i) = BitVec.ofNat 16 (x.queue.length - i) + 1 := by
      rw [Nat.sub_add_comm older.le, BitVec.ofNat_add]
      rfl
    rw [numbered i q before, more, add_sub_add_right_eq_sub]
  · have newest : q = { r with sequence := x.counter } := by simpa [Ledger.enter] using at_i.symm
    rw [newest, Nat.add_sub_cancel_left]
    exact (add_sub_cancel_right x.counter 1).symm
  · rw [List.getElem?_eq_none (by omega)] at at_i
    nomatch at_i

theorem Ledger.Numbered.release {x : Ledger} (h : x.Numbered) {r : Record} {rest : List Record} (oldest : x.queue = r :: rest) :
    Ledger.Numbered { x with queue := rest } ∧ rest.length < 8 := by
  obtain ⟨short, numbered⟩ := h
  have length : x.queue.length = rest.length + 1 := by rw [oldest, List.length_cons]
  refine ⟨⟨by dsimp only; omega, fun i q at_i => ?_⟩, by omega⟩
  have later := numbered (i + 1) q (by rw [oldest]; exact at_i)
  rwa [length, Nat.add_sub_add_right] at later

theorem Posted.numbered {x y : Ledger} (h : Posted x y) (k : x.Numbered) : y.Numbered := by
  cases h with
  | nothing => exact k
  | entered room _ => exact k.enter room _
  | held _ _ => exact k
  | released oldest => exact (k.release oldest).1
  | served oldest _ => exact (k.release oldest).1.enter (k.release oldest).2 _
  | accounted _ => exact k
  | restarted => exact k
  | reset => exact ⟨Nat.zero_le _, fun _ _ empty => nomatch empty⟩
  | started _ _ => exact k

-- R169 and R170.

/-- R170: `RecordsSettled` of the ledger. -/
def Ledger.Settled (x : Ledger) : Prop := (∀ r ∈ x.queue, RecordSettled r) ∧ ∀ o r, (x.book o).held = some r → RecordSettled r

theorem recordsSettled_iff {s : State} : RecordsSettled s ↔ (ledger s).Settled := Iff.rfl

/-- What holds of every book, and of a new one of an outlet, holds with the new one in place. -/
theorem Ledger.forall_withBook {P : Book → Prop} {x : Ledger} {o : Outlet} {b : Book} (all : ∀ o, P (x.book o)) (own : P b) :
    ∀ o', P ((x.withBook o b).book o') :=
  (Function.forall_update_iff x.book fun _ => P).mpr ⟨own, fun o' _ => all o'⟩

section
variable {x : Ledger} (h : x.Settled)
include h

theorem Ledger.Settled.enter {r : Record} (settled : RecordSettled r) : (x.enter r).Settled :=
  ⟨List.forall_mem_append.mpr ⟨h.1, List.forall_mem_singleton.mpr settled⟩, h.2⟩

theorem Ledger.Settled.withBook {o : Outlet} {b : Book} (own : ∀ r, b.held = some r → RecordSettled r) : (x.withBook o b).Settled :=
  ⟨h.1, Ledger.forall_withBook (P := fun b => ∀ r, b.held = some r → RecordSettled r) h.2 own⟩

theorem Ledger.Settled.release {r : Record} {rest : List Record} (oldest : x.queue = r :: rest) :
    Ledger.Settled { x with queue := rest } :=
  ⟨fun q listed => h.1 q (oldest ▸ List.mem_cons_of_mem r listed), h.2⟩

end

theorem Posted.settled {x y : Ledger} (h : Posted x y) (k : x.Settled) : y.Settled := by
  cases h with
  | nothing => exact k
  | entered _ settled => exact k.enter settled
  | held o settled => exact k.withBook fun r same => Option.some.inj same ▸ settled
  | released oldest => exact k.release oldest
  | served oldest waits => exact Ledger.Settled.withBook ((k.release oldest).enter (k.2 _ _ waits)) fun _ empty => nomatch empty
  | accounted _ => exact k.withBook (k.2 _)
  | restarted => exact ⟨k.1, fun _ _ empty => nomatch empty⟩
  | reset => exact ⟨fun _ listed => (List.not_mem_nil listed).elim, fun _ _ empty => nomatch empty⟩
  | started _ _ => exact k

-- R158 to R163.

/-- R158 to R163: `AccountsSafe` of the ledger. -/
def Ledger.Exact (x : Ledger) : Prop :=
  (∀ im, x.image = some im → itemsInRange im = true ∧ relationsHold im = true) ∧ ∀ o, AccountsExact (x.book o).accounts

theorem imageOk_iff {s : State} : ImageOk s ↔ ∀ im, (ledger s).image = some im → itemsInRange im = true ∧ relationsHold im = true :=
  forall_congr' fun _ => imp_congr_left imageOf_eq_some.symm

theorem accountsSafe_iff {s : State} : AccountsSafe s ↔ (ledger s).Exact := by
  have books : ∀ o, AccountsExact ((ledger s).book o).accounts ↔ AccountsExact (s.out o).acc := fun _ => accountsExact_figures
  rw [AccountsSafe, Ledger.Exact, imageOk_iff, forall_congr' books]
  refine and_congr_right fun _ => ⟨fun both o => ?_, fun all => ⟨all .a, all .b⟩⟩
  cases o
  exacts [both.1, both.2]

theorem Ledger.Exact.withBook {x : Ledger} (h : x.Exact) {o : Outlet} {b : Book} (own : AccountsExact b.accounts) :
    (x.withBook o b).Exact :=
  ⟨h.1, Ledger.forall_withBook (P := fun b => AccountsExact b.accounts) h.2 own⟩

theorem Posted.exact {x y : Ledger} (h : Posted x y) (k : x.Exact) : y.Exact := by
  cases h with
  | nothing => exact k
  | entered _ _ => exact k
  | held o _ => exact k.withBook (k.2 o)
  | released _ => exact k
  | served _ _ => exact Ledger.Exact.withBook k (k.2 _)
  | accounted account => exact k.withBook (account.accountsExact (fun im force => (k.1 im force).1) (k.2 _))
  | restarted => exact ⟨nofun, fun _ => accountsExact_cleared⟩
  | reset => exact ⟨nofun, fun _ => accountsExact_cleared⟩
  | started items relations => exact ⟨fun im force => Option.some.inj force ▸ ⟨items, relations⟩, k.2⟩

end Sys2Proof.Machine
end

section
/-! SUPPORT. What the operations of the model post to the ledger (`Posts`): most post nothing, a completed close its record, RECORD RELEASE the leave
of one, a billed pulse or a dwell minute its charge, and a reset clears the books. -/

namespace Sys2Proof.Machine

/-- A step posts to the ledger as `Posted` says. -/
def Posts (s t : State) : Prop := Posted (ledger s) (ledger t)

-- What leaves the ledger as it is.

theorem ledger_congr {s t : State} (configured : imageOf t.configured = imageOf s.configured) (stu : t.stu = s.stu)
    (out : ∀ o, bookOf (t.out o) = bookOf (s.out o)) : ledger t = ledger s := by
  rw [ledger, ledger, configured, stu, funext out]

/-- A change of one outlet's book. -/
theorem ledger_of_other {s t : State} {o : Outlet} (configured : t.configured = s.configured)
    (other : bookOf (t.out (otherOutlet o)) = bookOf (s.out (otherOutlet o))) :
    ledger t = Ledger.withBook { ledger s with queue := t.stu.queue, counter := t.stu.counter } o (bookOf (t.out o)) := by
  have books : (fun x => bookOf (t.out x)) = Function.update (ledger s).book o (bookOf (t.out o)) := funext fun x => by
    by_cases same : x = o
    · rw [same, Function.update_self]
    · rw [Function.update_of_ne same, eq_otherOutlet same]
      exact other
  rw [ledger, books, configured]
  rfl

theorem Ledger.withBook_self (x : Ledger) (o : Outlet) : x.withBook o (x.book o) = x := by
  rw [Ledger.withBook, Function.update_eq_self]

theorem EventAt.other_book {o : Outlet} {s t : State} (h : EventAt o s t) :
    bookOf (t.out (otherOutlet o)) = bookOf (s.out (otherOutlet o)) := by
  rw [h.2.1]
  rfl

/-- An event leaves the ledger as it is where it leaves its own outlet's book. -/
theorem EventAt.ledger {o : Outlet} {s t : State} (h : EventAt o s t) (own : bookOf (t.out o) = bookOf (s.out o)) :
    ledger t = ledger s := by
  have stu : t.stu = s.stu := by rw [h.1]
  rw [ledger_of_other (by rw [h.1]) h.other_book, own, stu]
  exact Ledger.withBook_self ..

theorem PulseEvent.ledger {o : Outlet} {s t : State} (h : PulseEvent o s t) : ledger t = ledger s := by
  obtain ⟨event, part⟩ := h
  simp only [billedPart, Prod.mk.injEq] at part
  obtain ⟨-, acc, -, -, -, held, -⟩ := part
  exact event.ledger (by rw [bookOf, bookOf, acc, held])

theorem Shared.ledger {s t : State} (h : Shared s t) : ledger t = ledger s := (h.pulseEvent .a).ledger

/-- What either outlet's event may do to the other one posts nothing. -/
theorem ledger_of_eventAt {s t : State} (h : ∀ o, EventAt o s t) : ledger t = ledger s := (h .a).ledger (h .b).other_book

theorem RosterOnly.ledger {s t : State} (h : RosterOnly s t) : ledger t = ledger s := by rw [h.1]; rfl

theorem ledger_modOut_book (s : State) (o : Outlet) (f : OutletState → OutletState) :
    ledger (s.modOut o f) = (ledger s).withBook o (bookOf (f (s.out o))) := by
  rw [ledger_of_other (o := o) (modOut_configured ..) (by rw [out_modOut_other]), out_modOut, modOut_stu]
  rfl

theorem ledger_modOut {s : State} {o : Outlet} {f : OutletState → OutletState} (h : bookOf (f (s.out o)) = bookOf (s.out o)) :
    ledger (s.modOut o f) = ledger s := (eventAt_own o f s).ledger (by rw [out_modOut]; exact h)

section
variable (im : Image) (o : Outlet) (before s : State)

@[simp] theorem ledger_raise (f : EventFlag) : ledger (raise f s) = ledger s := rfl
@[simp] theorem ledger_respond (x : Status) (code : Nat) (p : List Byte) : ledger (respond x code p s) = ledger s := rfl
@[simp] theorem ledger_refuse (x : Status) (code : Nat) : ledger (refuse x code s) = ledger s := rfl
theorem ledger_slc (x : Slc) : ledger { s with slc := x } = ledger s := rfl

@[simp] theorem ledger_finishCaptured (c : Instr) : ledger (finishCaptured c s) = ledger s := by rw [finishCaptured_keeps]; rfl

@[simp] theorem ledger_noteUpdate (values : Announced) : ledger (noteUpdate im values s) = ledger s :=
  (shared_noteUpdate im values s).ledger
@[simp] theorem ledger_noted (f : State → State) : ledger (noted im f s) = ledger (f s) := ledger_noteUpdate ..
@[simp] theorem ledger_computation : ledger (computation im s) = ledger s := (shared_computation im s).ledger
@[simp] theorem ledger_triggered : ledger (triggered im before s) = ledger s := (shared_triggered im before s).ledger
@[simp] theorem ledger_outletEvent : ledger (outletEvent im before s) = ledger s := (shared_outletEvent im before s).ledger

theorem ledger_releaseRises : ledger (releaseRises im s) = ledger s := ledger_of_eventAt fun o => eventAt_releaseRises im o s
theorem ledger_evaluateRises : ledger (evaluateRises im s) = ledger s := ledger_of_eventAt fun o => eventAt_evaluateRises im o s
theorem ledger_settleRises : ledger (settleRises s) = ledger s := ledger_of_eventAt fun o => eventAt_settleRises o s

theorem ledger_trip (cause : TripCause) : ledger (trip im o cause s) = ledger s := (pulseEvent_trip im o cause s).ledger
theorem ledger_tripEvent (cause : TripCause) : ledger (tripEvent im o cause s) = ledger s := (pulseEvent_tripEvent im o cause s).ledger

theorem ledger_tripBoth : ledger (tripBoth im s) = ledger s := by
  have drawn : ledger (if s.grl.riseWaiting then { s with draws := s.draws + 1 } else s) = ledger s := by split <;> rfl
  unfold tripBoth
  dsimp only
  split <;> rw [ledger_trip, ledger_trip, drawn]

theorem ledger_confirmDecrease : ledger (confirmDecrease im o s) = ledger s :=
  (ledger_releaseRises ..).trans ((ledger_noted ..).trans (ledger_modOut rfl))

theorem ledger_testStart : ledger (testStart o s) = ledger s := by
  refine (eventAt_testStart o s).ledger ?_
  unfold testStart
  split
  · rw [setSession_out, out_modOut]; rfl
  · rfl

theorem bookOf_withdrawnOutlet (now : Nat) (u : OutletState) : bookOf (withdrawnOutlet im now u) = bookOf u := by
  unfold withdrawnOutlet loweredToNone
  split <;> rfl

/-- The entry to DWELL begins a dwell period, which is no sum of the accounts (R166). -/
theorem ledger_enterDwell : ledger (enterDwell im o s) = ledger s := by
  rw [enterDwell_eq, ledger_settleRises, ledger_raise]
  exact ledger_modOut (bookOf_withdrawnOutlet ..)

theorem ledger_replaceDemand (d f : Nat) : ledger (replaceDemand o d f s) = ledger s := ledger_modOut rfl

theorem ledger_takeDemand {d f : Nat} {t : State} (taken : takeDemand o d f s = some t) : ledger t = ledger s := by
  have replaced := ledger_replaceDemand o s d f
  unfold takeDemand at taken
  split at taken <;> cases taken
  case h_4 =>
    split
    · exact (ledger_modOut rfl).trans replaced
    · exact replaced
  all_goals exact replaced

theorem ledger_takeComplete {t : State} (taken : takeComplete im o s = some t) : ledger t = ledger s := by
  unfold takeComplete at taken
  split at taken <;> cases taken
  · exact ledger_enterDwell im o s
  · exact ledger_enterDwell im o s
  · exact ledger_replaceDemand o s 0 0

@[simp] theorem ledger_finishRoster : ledger (finishRoster im before s) = ledger s := by
  unfold finishRoster
  dsimp only
  split <;> simp [(rosterOnly_evaluateMode im s).ledger]

theorem ledger_tickCause : ledger (tickCause s) = ledger s := by
  unfold tickCause
  split
  · split <;> rfl
  · rfl

end

-- How the rows compose.

section
variable {s t u : State}

theorem Posts.of_same (same : ledger t = ledger s) : Posts s t := by
  rw [Posts, same]; exact .nothing

theorem Posts.refl (s : State) : Posts s s := .of_same rfl

theorem Posts.before (same : ledger t = ledger s) (h : Posts t u) : Posts s u := by rwa [Posts, ← same]

theorem Posts.after (h : Posts s t) (same : ledger u = ledger t) : Posts s u := by rwa [Posts, same]

theorem Posts.ite {p : Prop} [Decidable p] (h : p → Posts s t) : Posts s (if p then t else s) := by
  split
  · exact h ‹_›
  · exact .refl s

theorem Posts.ite_not {p : Prop} [Decidable p] (h : ¬p → Posts s t) : Posts s (if p then s else t) := by
  split
  · exact .refl s
  · exact h ‹_›

theorem posts_whenRunning {f : Image → State} (h : ∀ im, s.configured = .running im → Posts s (f im)) : Posts s (whenRunning s f) := by
  unfold whenRunning
  split
  · exact h _ ‹_›
  · exact .refl s
  · exact .refl s

theorem posts_whenFitted {o : Outlet} {f : Image → State} (h : ∀ im, s.configured = .running im → Posts s (f im)) :
    Posts s (whenFitted s o f) := posts_whenRunning fun im running => .ite fun _ => h im running

end

-- The accounts of a session (R100, R125, R160, R166, R167).

/-- A change of one outlet's accounts. -/
theorem posts_accounts {s t : State} {o : Outlet} (event : EventAt o s t) (held : (t.out o).heldRecord = (s.out o).heldRecord)
    (account : Accounted (imageOf s.configured) (figures (s.out o).acc) (figures (t.out o).acc)) : Posts s t := by
  have stu : t.stu = s.stu := by rw [event.1]
  rw [Posts, ledger_of_other (by rw [event.1]) event.other_book, bookOf, held, stu]
  exact .accounted account

theorem segment_lookup {im : Image} {clock : Clock} {busy : Bool} {tier : Nat} {bank : BankContents} {i : Nat}
    (window : (lookup im clock busy tier bank).segment = .window i) : i < 8 := by
  unfold lookup at window
  split at window
  · nomatch window
  · have outcome : ∀ xs, (outcomeOf bank xs).segment = .window i → i ∈ xs := fun xs one => by
      unfold outcomeOf at one
      split at one
      · nomatch one
      · exact List.mem_singleton.mpr (SegmentKey.window.inj one).symm
      · nomatch one
    obtain ⟨j, rfl, -⟩ := mem_matching.mp (outcome _ window)
    exact j.isLt

theorem posts_accruePulse {im : Image} {s : State} (running : s.configured = .running im) (o : Outlet) {p : Priced}
    (window : ∀ i, p.segment = .window i → i < 8) : Posts s (accruePulse im o p s) := by
  rw [accruePulse_eq]
  refine posts_accounts (o := o) ((eventAt_own o _ s).trans (eventAt_faultNoted o p _)) ?_ ?_ <;> rw [faultNoted_out, out_modOut]
  rw [running]
  exact .pulse _ rfl rfl window

/-- A billed pulse posts its accrual (R125, R160). -/
theorem posts_billPulse {im : Image} {s : State} (running : s.configured = .running im) (o : Outlet) : Posts s (billPulse im o s) := by
  refine (posts_accruePulse running o (p := priceAt im s o) fun i => segment_lookup).after ?_
  exact (pulseEvent_captureInterval ..).ledger.trans ((ledger_outletEvent ..).trans (pulseEvent_checkCredit ..).ledger)

/-- A dwell minute posts its charge, and one within the grace nothing (R166, R167). -/
theorem posts_dwellMinute (s : State) (o : Outlet) (hold : Nat) (bank : BankContents) (draws : Nat) :
    Posts s (s.modOut o fun u => { u with acc := (dwellMinute hold bank (s.out o).acc draws).1 }) := by
  by_cases grace : (bump maxDwellMinutes (s.out o).acc.dwellMinutes draws).1 ≤ bank.grace.toNat
  · refine .of_same (ledger_modOut ?_)
    simp only [dwellMinute, if_pos grace]
    rfl
  · refine posts_accounts (eventAt_own o _ s) ?_ ?_ <;> rw [out_modOut]
    simp only [dwellMinute, if_neg grace]
    exact .minute _ _ _ rfl

/-- An accepted OPEN SESSION clears the accounts of its outlet (R100). -/
theorem posts_acceptOpen (im : Image) (o : Outlet) (header : Header) (s : State) : Posts s (acceptOpen im o header s) := by
  rw [acceptOpen_eq]
  refine Posts.before (t := { s with grl.order := s.grl.order ++ [o] }) rfl ?_
  refine posts_accounts ((eventAt_own o _ _).trans (eventAt_raise o _ _)) ?_ ?_ <;> rw [raise_out, out_modOut]
  · rfl
  · exact .cleared

-- The end of a session (R115 to R117).

theorem ledger_clearGrants (o : Outlet) (s : State) : ledger (clearGrants o s) = ledger s := by
  rw [clearGrants_eq, ledger_settleRises]
  exact ledger_modOut (s := { s with grl.order := s.grl.order.filter fun x => x != o }) rfl

theorem ledger_enterQueue (r : Record) (s : State) : ledger (enterQueue r s) = (ledger s).enter r := by
  rw [enterQueue_keeps]; rfl

/-- A record that settles within its hold enters a queue with room, and is held while the queue is full (R116). -/
theorem posts_settleRecord (o : Outlet) {r : Record} (settled : RecordSettled r) (s : State) : Posts s (settleRecord o r s) := by
  unfold settleRecord
  split
  · rename_i room
    refine Posts.after ?_ (ledger_modOut rfl)
    rw [Posts, ledger_enterQueue]
    exact .entered room settled
  · refine Posts.after (t := s.modOut o fun u => { u with heldRecord := some r }) ?_ ((ledger_modOut rfl).trans rfl)
    rw [Posts, ledger_modOut_book]
    exact .held o settled

theorem posts_completeClose (o : Outlet) (s : State) : Posts s (completeClose o s) := by
  have closed : ledger (s.modOut o (closedAccounts (buildRecord o (s.out o)))) = ledger s := ledger_modOut rfl
  rw [completeClose_eq]
  exact ((posts_settleRecord o (recordSettled_buildRecord o _) _).before closed).after (ledger_clearGrants ..)

theorem posts_beginOpenWait (im : Image) (o : Outlet) (s : State) : Posts s (beginOpenWait im o s) := by
  have waits : ledger (s.modOut o (waitsOpen im s.now)) = ledger s := ledger_modOut rfl
  cases closed : (s.out o).feedback.level with
  | true => rw [beginOpenWait_closed closed]; exact .of_same waits
  | false => rw [beginOpenWait_open closed]; exact (posts_completeClose o _).before waits

theorem posts_reportOutput (im : Image) (o : Outlet) (s : State) : Posts s (reportOutput im o s) :=
  .ite fun _ => (posts_beginOpenWait im o s).after (ledger_noted ..)

theorem posts_acceptClose (im : Image) (o : Outlet) (s : State) : Posts s (acceptClose im o s) := by
  by_cases tripped : (s.out o).osc.state = .tripped
  · rw [acceptClose_tripped tripped]
    exact (posts_beginOpenWait im o _).before ((ledger_raise ..).trans (ledger_modOut rfl))
  · rw [acceptClose_waiting tripped]
    refine (posts_reportOutput im o _).before ?_
    rw [outputWaits, ledger_settleRises, ledger_raise]
    exact ledger_modOut (bookOf_withdrawnOutlet ..)

theorem posts_feedbackOpened (im : Image) (o : Outlet) (s : State) : Posts s (feedbackOpened im o s) := by
  unfold feedbackOpened
  split
  · exact posts_completeClose o s
  split
  · exact .of_same (ledger_modOut rfl)
  split
  · exact .of_same (ledger_modOut rfl)
  · exact .refl s

theorem ledger_dropOldest (rest : List Record) (s : State) : ledger (dropOldest rest s) = { ledger s with queue := rest } := by
  unfold ledger
  simp only [dropOldest_out]
  rfl

/-- RECORD RELEASE posts the oldest record's leave, and the entry of one that the outlet to be served holds (R117, R177). -/
theorem posts_release {s : State} {r : Record} {rest : List Record} (oldest : s.stu.queue = r :: rest) :
    Posts s (serveSettleWait (dropOldest rest s)) := by
  have dropped := ledger_dropOldest rest s
  cases order : s.stu.settleWait with
  | nil =>
    rw [serveSettleWait_nil (s := dropOldest rest s) order, Posts, dropped]
    exact .released oldest
  | cons o waiting =>
    have own := ((headServed_keeps o waiting (dropOldest rest s)).2 o).trans (dropOldest_out rest s o)
    rw [serveSettleWait_cons (s := dropOldest rest s) order]
    refine Posts.after ?_ ((ledger_clearGrants ..).trans (ledger_modOut rfl))
    rw [Posts, ledger_modOut_book, own]
    cases held : (s.out o).heldRecord with
    | some h =>
      have served : ledger (headServed o waiting (dropOldest rest s)) = Ledger.enter { ledger s with queue := rest } h := by
        rw [headServed, dropOldest_out, held, ← dropped]
        exact ledger_enterQueue ..
      rw [served]
      exact .served oldest held
    | none =>
      have served : ledger (headServed o waiting (dropOldest rest s)) = { ledger s with queue := rest } := by
        rw [headServed, dropOldest_out, held, ← dropped]
        rfl
      have empty : ({ s.out o with heldRecord := none } : OutletState) = s.out o := by rw [← held]
      have same : Ledger.withBook { ledger s with queue := rest } o (bookOf (s.out o)) = { ledger s with queue := rest } :=
        Ledger.withBook_self ..
      rw [served, empty, same]
      exact .released oldest

-- The resets and the entry to RUNNING (R203, R208, R210).

theorem posts_powerOnState (s : State) : Posts s (powerOnState s) := by
  have cleared : ledger (powerOnState s) = ⟨none, [], 0, fun _ => ⟨none, .cleared⟩⟩ := by
    unfold ledger
    congr 1
    funext o
    cases o <;> rfl
  rw [Posts, cleared]
  exact .reset

theorem posts_reinitialise (s : State) : Posts s (reinitialise s) := by
  have cleared : ledger (reinitialise s) = ⟨none, (ledger s).queue, (ledger s).counter, fun _ => ⟨none, .cleared⟩⟩ := by
    unfold ledger
    congr 1
    funext o
    cases o <;> rfl
  rw [Posts, cleared]
  exact .restarted

theorem ledger_firstWord (im : Image) (o : Outlet) (s : State) : ledger (firstWord im o s) = ledger s := by
  unfold firstWord
  split
  · exact ledger_modOut rfl
  · rfl

theorem ledger_enterRunning (im : Image) (s : State) : ledger (enterRunning im s) = { ledger s with image := some im } := by
  unfold enterRunning
  dsimp only
  rw [ledger_firstWord, ledger_firstWord, ledger_computation]
  unfold ledger
  split <;> congr 1 <;> funext o <;> cases o <;> rfl

theorem posts_enterRunning {bytes : List Byte} {im : Image} (valid : validImage bytes = some im) (s : State) :
    Posts s (enterRunning im s) := by
  obtain ⟨items, relations⟩ := validImage_ok valid
  rw [Posts, ledger_enterRunning]
  exact .started items relations

end Sys2Proof.Machine
end

section
/-! PROOF. The settlements and accounts at every step (R158 to R163, R169, R170, R173): each row as it posts to the ledger (`Posts`), and 0.1 ms,
which posts nothing. -/

namespace Sys2Proof.Machine

-- The gates of the host port.

theorem posts_hostAny (c : Instr) {f : State → State} (h : ∀ u, Posts u (f u)) (s : State) : Posts s (hostAny c f s) := by
  have taken := (h (finishCaptured c s)).before (ledger_finishCaptured s c)
  unfold hostAny
  split
  · exact .of_same rfl
  · exact taken
  · split
    · exact .of_same rfl
    · exact taken

theorem posts_hostRunning (c : Instr) (code : Nat) {f : Image → State → State} (h : ∀ im u, Posts u (f im u)) (s : State) :
    Posts s (hostRunning c code f s) := by
  unfold hostRunning
  split
  · exact .of_same rfl
  · exact .of_same ((ledger_refuse ..).trans (ledger_finishCaptured s c))
  · split
    · exact .of_same rfl
    · exact (h _ _).before (ledger_finishCaptured s c)

theorem Posts.respond {s t : State} (h : Posts s t) (x : Status) (code : Nat) (p : List Byte) : Posts s (respond x code p t) :=
  h.after (ledger_respond ..)

theorem posts_refuse (x : Status) (code : Nat) (s : State) : Posts s (refuse x code s) := .of_same (ledger_refuse ..)

theorem posts_respond (x : Status) (code : Nat) (p : List Byte) (s : State) : Posts s (respond x code p s) :=
  .of_same (ledger_respond ..)

-- The rows of the host port (spec/09) that answer.

theorem posts_onlyAnswers {c : Instr} (k : onlyAnswers c = true) {s t : State} (e : exec c s = .next t) : Posts s t := by
  cases c with
  | pending =>
    simp only [exec, execPending] at e
    split at e <;> cases e <;> exact .of_same rfl
  | chipSelectRise bytes =>
    cases e
    split
    · exact .of_same rfl
    split <;> exact .of_same rfl
  | unknownCommand bytes =>
    simp only [exec, execUnknownCommand] at e
    split at e <;> cases e
    · exact .refl s
    · exact posts_hostAny _ (fun u => by split <;> exact .of_same rfl) s
  | nop | status => cases e; exact posts_hostAny _ (fun u => posts_respond _ _ _ u) s
  | events clear => cases e; exact posts_hostAny _ (fun u => by split <;> exact .of_same rfl) s
  | lineStatus => cases e; exact posts_hostRunning _ _ (fun _ u => posts_respond _ _ _ u) s
  | eventEnable | setClock | outletStatus | rosterRead | tariffRead | recordPeek =>
    cases e
    exact posts_hostRunning _ _ (fun _ u => by split <;> exact .of_same rfl) s
  | tariffLoad bank image =>
    cases e
    refine posts_hostRunning _ _ (fun _ u => ?_) s
    split
    · exact posts_refuse _ _ u
    split
    · exact posts_refuse _ _ u
    split <;> exact .of_same rfl
  | tariffSelect bank =>
    cases e
    refine posts_hostRunning _ _ (fun _ u => ?_) s
    split
    · exact posts_refuse _ _ u
    split <;> exact .of_same rfl
  | _ => cases k

-- The commands of a session (R99, R102, R112, R177) and RESTART (R210).

section
variable {s t : State}

theorem posts_openSession {outlet tier : Byte} {reference hold : BitVec 32} {demand floor : BitVec 16}
    (e : exec (.openSession outlet reference hold tier demand floor) s = .next t) : Posts s t := by
  cases e
  refine posts_hostRunning _ _ (fun im u => ?_) s
  split
  · exact posts_refuse _ _ u
  split
  · exact posts_refuse _ _ u
  · exact ((posts_acceptOpen ..).after (ledger_triggered ..)).respond _ _ _

theorem posts_demandTaken (im : Image) (d f : Nat) {after : Option State} (k : ∀ t, after = some t → ledger t = ledger s) :
    Posts s (demandTaken im s d f after) := by
  unfold demandTaken
  split
  · exact posts_refuse _ _ s
  · exact .of_same ((ledger_respond ..).trans ((ledger_triggered ..).trans (k _ rfl)))

theorem posts_setDemand {outlet complete : Byte} {demand floor : BitVec 16}
    (e : exec (.setDemand outlet demand floor complete) s = .next t) : Posts s t := by
  cases e
  refine posts_hostRunning _ _ (fun im u => ?_) s
  split
  · exact posts_refuse _ _ u
  split
  · exact posts_refuse _ _ u
  split
  · exact posts_demandTaken im 0 0 fun _ => ledger_takeComplete im _ u
  · exact posts_demandTaken im _ _ fun _ => ledger_takeDemand _ u

theorem posts_closeSession {outlet : Byte} (e : exec (.closeSession outlet) s = .next t) : Posts s t := by
  cases e
  refine posts_hostRunning _ _ (fun im u => ?_) s
  split
  · exact posts_refuse _ _ u
  split
  · exact posts_refuse _ _ u
  split
  · exact ((posts_acceptClose ..).after (ledger_triggered ..)).respond _ _ _
  · exact posts_refuse _ _ u

theorem posts_recordRelease (e : exec .recordRelease s = .next t) : Posts s t := by
  cases e
  refine posts_hostRunning _ _ (fun im u => ?_) s
  split
  · exact posts_refuse _ _ u
  · rename_i oldest
    exact ((posts_release oldest).after (ledger_outletEvent ..)).respond _ _ _

theorem posts_restart (e : exec .restart s = .next t) : Posts s t := by
  cases e
  refine posts_hostRunning _ _ (fun im u => ?_) s
  split
  · unfold beginLeave
    split
    · exact .of_same rfl
    · exact (posts_reinitialise _).before (ledger_respond ..)
  · exact posts_refuse _ _ u

-- The rows of the grants, the outlets and the meter (spec/04 to spec/06) that are more than one change at their outlet.

theorem posts_riseHoldExpiry (e : exec .riseHoldExpiry s = .next t) : Posts s t := by
  cases e
  refine posts_whenRunning fun im _ => .ite fun _ => .of_same ?_
  dsimp only
  split
  · exact (ledger_noted ..).trans (ledger_evaluateRises ..)
  · rfl

theorem posts_confirmation {o : Outlet} (e : exec (.confirmation o) s = .next t) : Posts s t := by
  cases e
  refine posts_whenFitted fun im _ => .ite_not fun _ => ?_
  have high : ledger (s.modOut o settledHigh) = ledger s := ledger_modOut rfl
  dsimp only
  split
  · exact ((posts_reportOutput im o _).before ((ledger_confirmDecrease ..).trans high)).after (ledger_outletEvent ..)
  · exact .of_same high

theorem posts_parkHoldExpiry {o : Outlet} (e : exec (.parkHoldExpiry o) s = .next t) : Posts s t := by
  cases e
  refine posts_whenFitted fun im _ => ?_
  split
  · exact .of_same (ledger_modOut rfl)
  · exact .refl s
  · exact .refl s

theorem posts_meterPulse {o : Outlet} (e : exec (.meterPulse o) s = .next t) : Posts s t := by
  cases e
  refine posts_whenFitted fun im running => .ite_not fun _ => ?_
  have active : ledger (s.modOut o pulseSeen) = ledger s := ledger_modOut rfl
  split
  · exact (posts_billPulse ((modOut_configured ..).trans running) o).before active
  · exact .of_same ((ledger_raise ..).trans ((ledger_modOut rfl).trans active))

-- The rows of the line and the roster (spec/01, spec/02): the end of the LEAVE wait alone resets.

theorem posts_leaveCheck (s : State) : Posts s (leaveCheck s) := by
  rcases leaveCheck_cases s with ⟨ends, -⟩ | same
  · rw [ends]; exact posts_reinitialise s
  · rw [same]; exact .refl s

theorem posts_conflictFrame (im : Image) (s : State) : Posts s (conflictFrame im s) := by
  unfold conflictFrame
  refine (posts_leaveCheck _).before ?_
  split
  · rfl
  · exact ledger_finishRoster ..

theorem posts_judgeFrame {im : Image} {bytes : List Byte} {mark malformed : Bool} {deliver : State → State}
    (k : ∀ u, ledger (deliver u) = ledger u) : Posts s (judgeFrame im bytes mark malformed deliver s) := by
  rcases judgeFrame_cases im bytes mark malformed deliver s with e | ⟨-, e | e | ⟨-, -, e⟩⟩ <;> rw [e]
  · exact .refl s
  · exact .of_same rfl
  · exact posts_conflictFrame im s
  · exact .of_same (k _)

theorem posts_onTheLine {c : Instr} (k : onTheLine c = true) (e : exec c s = .next t) : Posts s t := by
  cases c with
  | leaveTimerExpiry => cases e; exact posts_whenRunning fun im _ => .ite fun _ => (posts_leaveCheck _).before (ledger_slc s _)
  | sharePeriodTick =>
    cases e
    refine posts_whenRunning fun im _ => .of_same ?_
    rw [tickRoster_eq, ledger_computation, ledger_noteUpdate, (rosterOnly_evaluateMode im _).ledger,
      (rosterOnly_rosterTicked im _).ledger, ledger_tickCause]
    rfl
  | quarterPeriodMark =>
    cases e
    refine posts_whenRunning fun im _ => .of_same ?_
    split <;> rfl
  | attemptStart =>
    cases e
    refine posts_whenRunning fun im _ => ?_
    split
    · exact .ite fun _ => .of_same rfl
    all_goals exact .refl s
  | arbitrationLoss =>
    cases e
    refine posts_whenRunning fun im _ => ?_
    split
    · exact (posts_leaveCheck _).before (ledger_slc s _)
    all_goals exact .refl s
  | bitError =>
    cases e
    refine posts_whenRunning fun im _ => ?_
    split
    · have aborted : ∀ x : State, ledger x = ledger s → Posts s (drivingAbort (leaveCheck x)) :=
        fun x same => ((posts_leaveCheck x).before same).after rfl
      refine aborted _ ?_
      split
      · exact ledger_finishRoster ..
      · rfl
    all_goals exact .refl s
  | restTimerExpiry => cases e; exact posts_whenRunning fun im _ => .ite fun _ => .of_same (ledger_finishRoster ..)
  | ownFrameCompletion acknowledged =>
    cases e
    refine posts_whenRunning fun im _ => ?_
    have reported : ledger (reportCompletion im acknowledged (completeFrame s)) = ledger s := by
      unfold reportCompletion
      split
      · exact ledger_finishRoster ..
      · rfl
    split
    · exact .of_same reported
    · exact (posts_reinitialise _).before reported
    all_goals exact .refl s
  | stuffViolation => cases e; exact posts_whenRunning fun im _ => .ite fun _ => .of_same rfl
  | announceReceived frame mark =>
    cases e
    refine posts_whenRunning fun im _ => ?_
    dsimp only
    split
    · exact posts_judgeFrame fun u => rfl
    · exact posts_judgeFrame fun u => (ledger_finishRoster ..).trans (rosterOnly_announceHeard im _ _ _ u).ledger
  | leaveReceived frame mark =>
    cases e
    exact posts_whenRunning fun im _ =>
      posts_judgeFrame fun u => (ledger_finishRoster ..).trans (rosterOnly_leaveHeard im _ u).ledger
  | lineIdle => cases e; exact .ite_not fun _ => .of_same rfl
  | frameStartBit =>
    cases e
    refine .ite fun _ => .of_same ?_
    unfold whenRunning
    split <;> rfl
  | _ => cases k

-- The rows of the start-up (spec/10).

/-- A read that goes on, or fails, leaves no image in force as there was none (R204, R208). -/
theorem ledger_configured {c : Configured} (image : imageOf c = imageOf s.configured) : ledger { s with configured := c } = ledger s :=
  ledger_congr image rfl fun o => by cases o <;> rfl

theorem posts_startsUp {c : Instr} (k : startsUp c = true) (e : exec c s = .next t) : Posts s t := by
  cases c with
  | powerOn =>
    cases e
    split
    · exact posts_powerOnState s
    · exact (posts_powerOnState s).after (ledger_configured rfl)
  | resetLineAsserted => cases e; exact (posts_powerOnState s).after rfl
  | resetLineReleased =>
    simp only [exec, execResetLineReleased] at e
    split at e <;> rename_i state <;> cases e
    · exact .of_same ((ledger_configured (by rw [state]; rfl)).trans rfl)
    all_goals exact .of_same rfl
  | configurationReadEnd result =>
    simp only [exec, execConfigurationReadEnd] at e
    split at e
    · rename_i state
      split at e
      · cases e; exact .of_same (ledger_configured (by rw [state]; rfl))
      · split at e <;> cases e
        · rename_i valid
          unfold readImage at valid
          split at valid
          · nomatch valid
          · obtain ⟨bytes, -, valid⟩ := Option.bind_eq_some_iff.mp valid
            exact posts_enterRunning valid s
        · exact .of_same ((ledger_raise ..).trans (ledger_configured (by rw [state]; rfl)))
    all_goals cases e; exact .refl s
  | passTimeout =>
    simp only [exec, execPassTimeout] at e
    split at e <;> rename_i state <;> cases e
    · exact .of_same (ledger_configured (by rw [state]; rfl))
    all_goals exact .refl s
  | configure image =>
    cases e
    refine posts_hostAny _ (fun u => ?_) s
    split
    · exact posts_refuse _ _ u
    · exact .refl u
    · split
      · exact posts_refuse _ _ u
      · exact (posts_enterRunning ‹_› u).respond _ _ _
  | _ => cases k

/-- Every row posts to the ledger as `Posted` says. -/
theorem exec_posts (c : Instr) (e : exec c s = .next t) : Posts s t := by
  by_cases answers : onlyAnswers c = true
  · exact posts_onlyAnswers answers e
  by_cases line : onTheLine c = true
  · exact posts_onTheLine line e
  by_cases start : startsUp c = true
  · exact posts_startsUp start e
  cases c with
  | openSession => exact posts_openSession e
  | setDemand => exact posts_setDemand e
  | closeSession => exact posts_closeSession e
  | recordRelease => exact posts_recordRelease e
  | restart => exact posts_restart e
  | riseHoldExpiry => exact posts_riseHoldExpiry e
  | confirmation => exact posts_confirmation e
  | parkHoldExpiry => exact posts_parkHoldExpiry e
  | meterPulse => exact posts_meterPulse e
  | feedbackOpen o =>
    cases e
    exact posts_whenFitted fun im _ => .ite fun _ =>
      ((posts_feedbackOpened im o _).before (ledger_modOut rfl)).after (ledger_outletEvent ..)
  | closeTimerExpiry o =>
    cases e
    exact posts_whenFitted fun im _ => .ite fun _ =>
      ((posts_completeClose o _).before (ledger_modOut rfl)).after (ledger_outletEvent ..)
  | dwellMinute o => cases e; exact posts_whenFitted fun im _ => .ite fun _ => (posts_dwellMinute s o _ _ _).after rfl
  | setpointWordEnd o =>
    cases e
    refine posts_whenFitted fun _ _ => .ite fun _ => .of_same (ledger_modOut ?_)
    unfold endWord
    dsimp only
    split <;> rfl
  | confirmTimeout | mismatchTimerExpiry | startTimerExpiry =>
    cases e
    exact posts_whenFitted fun im _ => .ite fun _ => .of_same ((ledger_tripEvent ..).trans (ledger_modOut rfl))
  | eStopAsserted =>
    cases e
    exact posts_whenRunning fun im _ => .ite_not fun _ => .of_same ((ledger_outletEvent ..).trans (ledger_tripBoth ..))
  | eStopReleased => cases e; exact posts_whenRunning fun _ _ => .ite fun _ => .of_same rfl
  | holdChange | feedbackClosed =>
    cases e
    exact posts_whenFitted fun im _ => .ite_not fun _ =>
      .of_same ((ledger_outletEvent ..).trans ((ledger_testStart ..).trans (ledger_modOut rfl)))
  | faultAsserted =>
    cases e
    exact posts_whenFitted fun im _ => .ite_not fun _ =>
      .of_same ((ledger_outletEvent ..).trans ((ledger_trip ..).trans (ledger_modOut rfl)))
  | faultReleased | settledRecognisedLow | pulseRecognisedInactive | noFlow =>
    cases e
    exact posts_whenFitted fun _ _ => .ite fun _ => .of_same (ledger_modOut rfl)
  | tariffClockAdvance => cases e; exact .of_same rfl
  | powerOn | resetLineAsserted | resetLineReleased | configurationReadEnd | passTimeout | configure => exact absurd rfl start
  | pending | chipSelectRise | unknownCommand | nop | status | lineStatus | setClock | outletStatus => exact absurd rfl answers
  | rosterRead | tariffLoad | tariffSelect | tariffRead | recordPeek | events | eventEnable => exact absurd rfl answers
  | _ => exact absurd rfl line

end

/-- The configured state after 0.1 ms has the image it had. -/
theorem imageOf_ageRead (c : Configured) : imageOf (ageRead c) = imageOf c := by
  unfold ageRead
  split <;> rfl

/-- 0.1 ms samples the inputs and counts, and posts nothing: the dwell clock is no sum of the accounts (R93, R94, R166). -/
theorem ledger_advance (s : State) : ledger (advance s) = ledger s := by
  by_cases running : ∃ im, s.configured = .running im
  · obtain ⟨im, r⟩ := running
    refine ledger_congr (by rw [(advance_station r).1]) (by rw [(advance_station r).1]) fun o => ?_
    obtain ⟨d, out⟩ := advance_out r o
    rw [out]
    split
    · split
      · obtain ⟨_, _, counted, -⟩ := countOutlet_spec (sampleOutlet im (tenthOutlet im (s.out o))) d
        rw [counted]; rfl
      · rfl
    · rfl
  · rw [advance_not_running fun im r => running ⟨im, r⟩]
    refine ledger_congr ?_ rfl fun o => by cases o <;> rfl
    dsimp only
    split
    · exact imageOf_ageRead _
    · rfl

theorem step_posts {s t : State} (e : step s = .next t) : Posts s t := by
  rcases step_next_cases e with rfl | ⟨c, pending, draws, e⟩
  · exact .of_same (ledger_advance s)
  · have queued : ledger { s with pending := pending, draws := draws } = ledger s := rfl
    exact (exec_posts c e).before queued

/-- Settles O6: whatever a step posts to the ledger keeps the numbering of its queue and the settlement of its records. -/
theorem queueAndRecordsStaySound : Obligations.QueueAndRecordsStaySound :=
  ⟨fun _ _ numbered e => queueNumbered_iff.mpr ((step_posts e).numbered (queueNumbered_iff.mp numbered)),
    fun _ _ settled e => recordsSettled_iff.mpr ((step_posts e).settled (recordsSettled_iff.mp settled))⟩

/-- Settles O14: whatever a step posts to the ledger keeps its accounts exact under the image in force. -/
theorem accountsStayExact : Obligations.AccountsStayExact := fun _ _ safe e =>
  accountsSafe_iff.mpr ((step_posts e).exact (accountsSafe_iff.mp safe))

end Sys2Proof.Machine
end

section
/-! SUPPORT. The queue of waiting commands (assumption log 1): no operation of the model touches it. -/

namespace Sys2Proof.Machine

theorem Shared.pending {s t : State} (h : Shared s t) : t.pending = s.pending := by rw [h.1]; rfl

theorem EventAt.pending {o : Outlet} {s t : State} (h : EventAt o s t) : t.pending = s.pending := by rw [h.1]

theorem RosterOnly.pending {s t : State} (h : RosterOnly s t) : t.pending = s.pending := by rw [h.1]

section
variable (im : Image) (o : Outlet) (before s : State)

-- The end of an event (R8, R46) and the host port's gates (R182 to R184).

@[simp] theorem noted_pending (f : State → State) : (noted im f s).pending = (f s).pending := noteUpdate_pending ..
@[simp] theorem computation_pending : (computation im s).pending = s.pending := (shared_computation im s).pending
@[simp] theorem triggered_pending : (triggered im before s).pending = s.pending := (shared_triggered im before s).pending
@[simp] theorem outletEvent_pending : (outletEvent im before s).pending = s.pending := (shared_outletEvent im before s).pending
@[simp] theorem finishCaptured_pending (c : Instr) : (finishCaptured c s).pending = s.pending := by rw [finishCaptured_keeps]
@[simp] theorem answerPending_pending : (answerPending s).pending = s.pending := rfl

-- The grants (spec/04).

@[simp] theorem evaluateRises_pending : (evaluateRises im s).pending = s.pending := (eventAt_evaluateRises im .a s).pending
@[simp] theorem withdraw_pending : (withdraw im o s).pending = s.pending := (eventAt_withdraw im o s).pending
@[simp] theorem confirmDecrease_pending : (confirmDecrease im o s).pending = s.pending := (eventAt_confirmDecrease im o s).pending

-- The sessions (spec/05) and their settlements (spec/08).

@[simp] theorem trip_pending (cause : TripCause) : (trip im o cause s).pending = s.pending := (eventAt_trip im o cause s).pending
@[simp] theorem tripEvent_pending (cause : TripCause) : (tripEvent im o cause s).pending = s.pending :=
  (eventAt_tripEvent im o cause s).pending
@[simp] theorem testStart_pending : (testStart o s).pending = s.pending := (eventAt_testStart o s).pending
@[simp] theorem enterDwell_pending : (enterDwell im o s).pending = s.pending := (eventAt_enterDwell im o s).pending
@[simp] theorem exhaust_pending : (exhaust im o s).pending = s.pending := (eventAt_exhaust im o s).pending
@[simp] theorem enterQueue_pending (r : Record) : (enterQueue r s).pending = s.pending := by rw [enterQueue_keeps]
@[simp] theorem clearGrants_pending : (clearGrants o s).pending = s.pending := by rw [(clearGrants_keeps o s).1]
@[simp] theorem acceptOpen_pending (h : Header) : (acceptOpen im o h s).pending = s.pending := by rw [(acceptOpen_keeps im o h s).1]

@[simp] theorem completeClose_pending : (completeClose o s).pending = s.pending := by
  unfold completeClose
  dsimp only
  split <;> simp

@[simp] theorem beginOpenWait_pending : (beginOpenWait im o s).pending = s.pending := by
  unfold beginOpenWait
  dsimp only
  split <;> simp

@[simp] theorem reportOutput_pending : (reportOutput im o s).pending = s.pending := by
  unfold reportOutput
  split <;> simp

@[simp] theorem acceptClose_pending : (acceptClose im o s).pending = s.pending := by
  unfold acceptClose
  dsimp only
  split <;> simp

@[simp] theorem serveSettleWait_pending : (serveSettleWait s).pending = s.pending := by
  unfold serveSettleWait
  split
  · rfl
  · dsimp only
    split <;> simp

@[simp] theorem tripBoth_pending : (tripBoth im s).pending = s.pending := by
  have drawn : (if s.grl.riseWaiting then { s with draws := s.draws + 1 } else s).pending = s.pending := by split <;> rfl
  unfold tripBoth
  dsimp only
  split <;> simp [drawn]

@[simp] theorem feedbackOpened_pending : (feedbackOpened im o s).pending = s.pending := by
  unfold feedbackOpened
  split
  · simp
  split
  · simp
  split <;> simp

theorem takeDemand_pending {d f : Nat} {t : State} (taken : takeDemand o d f s = some t) : t.pending = s.pending := by
  unfold takeDemand at taken
  split at taken <;> cases taken
  case h_4 => split <;> simp [replaceDemand]
  all_goals simp [replaceDemand]

theorem takeComplete_pending {t : State} (taken : takeComplete im o s = some t) : t.pending = s.pending := by
  unfold takeComplete at taken
  split at taken <;> cases taken
  all_goals simp [replaceDemand]

theorem demandTaken_pending (d f : Nat) {after : Option State} (h : ∀ t, after = some t → t.pending = s.pending) :
    (demandTaken im s d f after).pending = s.pending := by
  unfold demandTaken
  split
  · rfl
  · simpa using h _ rfl

-- The meter (spec/06).

@[simp] theorem accruePulse_pending (p : Priced) : (accruePulse im o p s).pending = s.pending := by
  unfold accruePulse noteLookup
  dsimp only
  split <;> simp

@[simp] theorem checkCredit_pending (p : Priced) : (checkCredit im o p s).pending = s.pending := by
  unfold checkCredit
  dsimp only
  split <;> simp

@[simp] theorem testOverDraw_pending : (testOverDraw im o s).pending = s.pending := by
  unfold testOverDraw
  dsimp only
  split <;> simp

@[simp] theorem captureInterval_pending : (captureInterval im o s).pending = s.pending := by
  unfold captureInterval
  split <;> simp

@[simp] theorem billPulse_pending : (billPulse im o s).pending = s.pending := by simp [billPulse]

-- The roster and the line (spec/01, spec/02), and the resets and the start (spec/10).

@[simp] theorem evaluateMode_pending : (evaluateMode im s).pending = s.pending := (rosterOnly_evaluateMode im s).pending

@[simp] theorem finishRoster_pending : (finishRoster im before s).pending = s.pending := by
  unfold finishRoster
  dsimp only
  split <;> simp

@[simp] theorem deliverAnnounce_pending (id : Nat) (sequence : Byte) (c : Announced) :
    (deliverAnnounce im id sequence c s).pending = s.pending := by
  rw [deliverAnnounce_eq, finishRoster_pending, (rosterOnly_announceHeard im id sequence c s).pending]

@[simp] theorem deliverLeave_pending (id : Nat) : (deliverLeave im id s).pending = s.pending := by
  rw [deliverLeave_eq, finishRoster_pending, (rosterOnly_leaveHeard im id s).pending]

@[simp] theorem tickRoster_pending : (tickRoster im s).pending = s.pending := by
  simp [tickRoster_eq, (rosterOnly_rosterTicked im s).pending]

@[simp] theorem tickCause_pending : (tickCause s).pending = s.pending := by
  unfold tickCause
  split
  · split <;> rfl
  · rfl

@[simp] theorem reinitialise_pending : (reinitialise s).pending = s.pending := rfl

@[simp] theorem leaveCheck_pending : (leaveCheck s).pending = s.pending := by
  rcases leaveCheck_cases s with ⟨ends, -⟩ | stays
  · rw [ends, reinitialise_pending]
  · rw [stays]

@[simp] theorem conflictFrame_pending : (conflictFrame im s).pending = s.pending := by
  unfold conflictFrame noteTransmitter
  dsimp only
  split <;> simp [barTransmitter]

theorem judgeFrame_pending (bytes : List Byte) (mark malformed : Bool) {deliver : State → State}
    (h : ∀ u, (deliver u).pending = u.pending) : (judgeFrame im bytes mark malformed deliver s).pending = s.pending := by
  rcases judgeFrame_cases im bytes mark malformed deliver s with e | ⟨-, e | e | ⟨-, -, e⟩⟩ <;> rw [e]
  · rfl
  · exact conflictFrame_pending im s
  · exact h _

@[simp] theorem reportCompletion_pending (acknowledged : Bool) : (reportCompletion im acknowledged s).pending = s.pending := by
  unfold reportCompletion noteAcknowledged
  split <;> simp

@[simp] theorem beginLeave_pending : (beginLeave s).pending = s.pending := by
  unfold beginLeave
  split <;> rfl

@[simp] theorem firstWord_pending : (firstWord im o s).pending = s.pending := by
  unfold firstWord
  split <;> simp

@[simp] theorem enterRunning_pending : (enterRunning im s).pending = s.pending := by
  unfold enterRunning
  dsimp only
  split <;> simp

end

end Sys2Proof.Machine
end

section
/-! PROOF. Every row answers with a next state, and keeps the queue of waiting commands (assumption log 1). -/

namespace Sys2Proof.Machine

section
variable {s : State}

-- How the rows compose.

theorem whenRunning_pending {f : Image → State} (h : ∀ im, (f im).pending = s.pending) : (whenRunning s f).pending = s.pending := by
  unfold whenRunning
  split
  · exact h _
  · rfl
  · rfl

theorem whenFitted_pending {o : Outlet} {f : Image → State} (h : ∀ im, (f im).pending = s.pending) :
    (whenFitted s o f).pending = s.pending :=
  whenRunning_pending fun im => by
    split
    · exact h im
    · rfl

theorem hostAny_pending {c : Instr} {f : State → State} (h : ∀ u, (f u).pending = u.pending) :
    (hostAny c f s).pending = s.pending := by
  unfold hostAny
  split
  · rfl
  · simp [h]
  · split <;> simp [h]

theorem hostRunning_pending {c : Instr} {code : Nat} {f : Image → State → State} (h : ∀ im u, (f im u).pending = u.pending) :
    (hostRunning c code f s).pending = s.pending := by
  unfold hostRunning
  split
  · rfl
  · simp
  · split <;> simp [h]

/-- The row answers with a next state, and its queue is that of `s`. -/
def NextKeepsQueue (s : State) (r : Host.Outcome State Fault Refusal) : Prop := ∃ t, r = .next t ∧ t.pending = s.pending

theorem NextKeepsQueue.of_next {t : State} (h : t.pending = s.pending) : NextKeepsQueue s (.next t) := ⟨t, rfl, h⟩

-- The rows of the start-up (spec/10).

theorem nextKeepsQueue_startsUp {c : Instr} (k : startsUp c = true) : NextKeepsQueue s (exec c s) := by
  cases c with
  | powerOn =>
    refine .of_next ?_
    split <;> rfl
  | resetLineAsserted => exact .of_next rfl
  | resetLineReleased =>
    simp only [exec, execResetLineReleased]
    split <;> exact .of_next rfl
  | configurationReadEnd result =>
    simp only [exec, execConfigurationReadEnd]
    split
    · split
      · exact .of_next rfl
      split
      · exact .of_next (enterRunning_pending ..)
      · exact .of_next rfl
    all_goals exact .of_next rfl
  | passTimeout =>
    simp only [exec, execPassTimeout]
    split <;> exact .of_next rfl
  | configure image =>
    refine .of_next (hostAny_pending fun u => ?_)
    split
    · rfl
    · rfl
    split <;> simp
  | _ => nomatch k

-- The rows of the host port (spec/09).

theorem nextKeepsQueue_onlyAnswers {c : Instr} (k : onlyAnswers c = true) : NextKeepsQueue s (exec c s) := by
  cases c with
  | pending =>
    simp only [exec, execPending]
    split <;> exact .of_next rfl
  | chipSelectRise bytes =>
    refine .of_next ?_
    split
    · rfl
    split <;> rfl
  | unknownCommand bytes =>
    simp only [exec, execUnknownCommand]
    split
    · exact .of_next rfl
    · exact .of_next (hostAny_pending fun u => by split <;> rfl)
  | nop | status => exact .of_next (hostAny_pending fun _ => rfl)
  | events clear => exact .of_next (hostAny_pending fun u => by split <;> rfl)
  | lineStatus => exact .of_next (hostRunning_pending fun _ _ => rfl)
  | eventEnable | setClock | outletStatus | rosterRead | tariffRead | recordPeek =>
    exact .of_next (hostRunning_pending fun _ u => by split <;> rfl)
  | tariffLoad bank image =>
    refine .of_next (hostRunning_pending fun _ u => ?_)
    split
    · rfl
    split
    · rfl
    split <;> rfl
  | tariffSelect bank =>
    refine .of_next (hostRunning_pending fun _ u => ?_)
    split
    · rfl
    split <;> rfl
  | _ => nomatch k

theorem nextKeepsQueue_openSession (outlet : Byte) (reference hold : BitVec 32) (tier : Byte) (demand floor : BitVec 16) :
    NextKeepsQueue s (exec (.openSession outlet reference hold tier demand floor) s) := by
  refine .of_next (hostRunning_pending fun im u => ?_)
  split
  · rfl
  split <;> simp

theorem nextKeepsQueue_setDemand (outlet : Byte) (demand floor : BitVec 16) (complete : Byte) :
    NextKeepsQueue s (exec (.setDemand outlet demand floor complete) s) := by
  refine .of_next (hostRunning_pending fun im u => ?_)
  split
  · rfl
  split
  · rfl
  split
  · exact demandTaken_pending im u 0 0 fun _ => takeComplete_pending im _ u
  · exact demandTaken_pending im u _ _ fun _ => takeDemand_pending _ u

theorem nextKeepsQueue_closeSession (outlet : Byte) : NextKeepsQueue s (exec (.closeSession outlet) s) := by
  refine .of_next (hostRunning_pending fun im u => ?_)
  split
  · rfl
  split
  · rfl
  split <;> simp

theorem nextKeepsQueue_recordRelease : NextKeepsQueue s (exec .recordRelease s) := by
  refine .of_next (hostRunning_pending fun im u => ?_)
  split <;> simp

theorem nextKeepsQueue_restart : NextKeepsQueue s (exec .restart s) := by
  refine .of_next (hostRunning_pending fun im u => ?_)
  split <;> simp

-- The rows of the line and the roster (spec/01, spec/02).

theorem nextKeepsQueue_onTheLine {c : Instr} (k : onTheLine c = true) : NextKeepsQueue s (exec c s) := by
  cases c with
  | leaveTimerExpiry | stuffViolation | restTimerExpiry =>
    exact .of_next (whenRunning_pending fun im => by split <;> simp [noteTransmitter])
  | sharePeriodTick => exact .of_next (whenRunning_pending fun im => by simp)
  | quarterPeriodMark | arbitrationLoss => exact .of_next (whenRunning_pending fun im => by split <;> simp)
  | attemptStart =>
    refine .of_next (whenRunning_pending fun im => ?_)
    split
    · split <;> rfl
    all_goals rfl
  | bitError =>
    refine .of_next (whenRunning_pending fun im => ?_)
    split
    · simp only [drivingAbort, leaveCheck_pending]
      split
      · exact finishRoster_pending ..
      · rfl
    all_goals rfl
  | ownFrameCompletion acknowledged =>
    refine .of_next (whenRunning_pending fun im => ?_)
    split <;> simp [completeAnnounce, completeFrame]
  | announceReceived frame mark =>
    refine .of_next (whenRunning_pending fun im => ?_)
    dsimp only
    split
    · exact judgeFrame_pending im s _ _ _ fun _ => rfl
    · exact judgeFrame_pending im s _ _ _ (deliverAnnounce_pending im · ..)
  | leaveReceived frame mark =>
    exact .of_next (whenRunning_pending fun im => judgeFrame_pending im s _ _ _ (deliverLeave_pending im · _))
  | lineIdle =>
    refine .of_next ?_
    split <;> rfl
  | frameStartBit =>
    refine .of_next ?_
    split
    · exact whenRunning_pending (s := { s with slc.lineIdle := false }) fun _ => rfl
    · rfl
  | _ => nomatch k

-- The rows of the grants, the outlets and the meter (spec/04 to spec/06).

theorem nextKeepsQueue_riseHoldExpiry : NextKeepsQueue s (exec .riseHoldExpiry s) := by
  refine .of_next (whenRunning_pending fun im => ?_)
  split
  · dsimp only
    split <;> simp
  · rfl

theorem nextKeepsQueue_confirmation (o : Outlet) : NextKeepsQueue s (exec (.confirmation o) s) := by
  refine .of_next (whenFitted_pending fun im => ?_)
  split
  · rfl
  · dsimp only
    split <;> simp

theorem nextKeepsQueue_meterPulse (o : Outlet) : NextKeepsQueue s (exec (.meterPulse o) s) := by
  refine .of_next (whenFitted_pending fun im => ?_)
  split
  · rfl
  · dsimp only
    split <;> simp [strayPulse]

theorem exec_nextKeepsQueue (c : Instr) : NextKeepsQueue s (exec c s) := by
  by_cases answers : onlyAnswers c = true
  · exact nextKeepsQueue_onlyAnswers answers
  by_cases line : onTheLine c = true
  · exact nextKeepsQueue_onTheLine line
  by_cases start : startsUp c = true
  · exact nextKeepsQueue_startsUp start
  cases c with
  | openSession => exact nextKeepsQueue_openSession ..
  | setDemand => exact nextKeepsQueue_setDemand ..
  | closeSession => exact nextKeepsQueue_closeSession ..
  | recordRelease => exact nextKeepsQueue_recordRelease
  | restart => exact nextKeepsQueue_restart
  | riseHoldExpiry => exact nextKeepsQueue_riseHoldExpiry
  | confirmation o => exact nextKeepsQueue_confirmation o
  | meterPulse o => exact nextKeepsQueue_meterPulse o
  | eStopAsserted | eStopReleased => exact .of_next (whenRunning_pending fun im => by split <;> simp)
  | setpointWordEnd | confirmTimeout | parkHoldExpiry | dwellMinute | holdChange | faultAsserted | faultReleased
  | feedbackClosed | feedbackOpen | settledRecognisedLow | mismatchTimerExpiry | startTimerExpiry | closeTimerExpiry
  | pulseRecognisedInactive | noFlow => exact .of_next (whenFitted_pending fun im => by split <;> simp)
  | tariffClockAdvance => exact .of_next rfl
  | powerOn | resetLineAsserted | resetLineReleased | configurationReadEnd | passTimeout | configure => exact absurd rfl start
  | pending | chipSelectRise | unknownCommand | nop | status | lineStatus | setClock | outletStatus => exact absurd rfl answers
  | rosterRead | tariffLoad | tariffSelect | tariffRead | recordPeek | events | eventEnable => exact absurd rfl answers
  | _ => exact absurd rfl line

end

/-- Settles O3: row by row, each through its gate and the operations of its meaning. -/
theorem everyCommandAnswersNextAndKeepsTheQueue : Obligations.EveryCommandAnswersNextAndKeepsTheQueue :=
  fun c _ => exec_nextKeepsQueue c

end Sys2Proof.Machine
end

section
/-! PROOF. What is not served (R184 to R186, R196): the gate that each command of Table 23 passes, and the refusals of a message. -/

namespace Sys2Proof.Machine

-- The gates.

/-- The part takes no transaction: it is LOADING, or waits to reinitialise (R184). -/
def Waits (s : State) : Prop := (∃ read, s.configured = .loading read) ∨ ∃ im, s.configured = .running im ∧ s.slc.leaveWait = true

theorem hostRunning_unconfigured {s : State} (h : s.configured = .unconfigured) (c : Instr) (code : Nat) (f : Image → State → State) :
    hostRunning c code f s = answered c ⟨.unconfigured, BitVec.ofNat 8 code, []⟩ s := by
  rw [hostRunning, h]; rfl

/-- Table 19: the meaning of a host command is behind one of the two gates, and the four that an UNCONFIGURED part takes behind the
first. -/
theorem exec_gated {c : Instr} {code : Nat} (coded : commandCode c = some code) (s : State) :
    (code ∈ [1, 2, 4, 16] ∧ ∃ f, exec c s = .next (hostAny c f s)) ∨ ∃ f, exec c s = .next (hostRunning c code f s) := by
  cases c with
  | nop | status | configure | events => cases coded; exact .inl ⟨by decide, _, rfl⟩
  | lineStatus | setClock | openSession | setDemand | closeSession | outletStatus | rosterRead => cases coded; exact .inr ⟨_, rfl⟩
  | tariffLoad | tariffSelect | tariffRead | recordPeek | recordRelease | eventEnable | restart => cases coded; exact .inr ⟨_, rfl⟩
  | _ => nomatch coded

theorem exec_answersPending {c : Instr} {code : Nat} (coded : commandCode c = some code) {s : State} (h : Waits s) :
    exec c s = .next (answerPending s) := by
  rcases exec_gated coded s with ⟨-, f, gate⟩ | ⟨f, gate⟩
  · exact gate.trans (congrArg _ (host_pending h c code f fun _ => f).1)
  · exact gate.trans (congrArg _ (host_pending h c code id f).2)

theorem exec_refusedUnconfigured {c : Instr} {code : Nat} (coded : commandCode c = some code) {s : State}
    (h : s.configured = .unconfigured) (refused : code ∉ [1, 2, 4, 16]) :
    exec c s = .next (answered c ⟨.unconfigured, BitVec.ofNat 8 code, []⟩ s) := by
  rcases exec_gated coded s with ⟨taken, -⟩ | ⟨f, gate⟩
  · exact absurd taken refused
  · exact gate.trans (congrArg _ (hostRunning_unconfigured h c code f))

-- A message that is no command's (R185 steps 1 to 4).

/-- The codes of Table 23 are 1 to 18. -/
theorem payloadLength_isSome_iff (code : Nat) : (payloadLength code).isSome = true ↔ 1 ≤ code ∧ code ≤ 18 := by
  unfold payloadLength
  split
  case h_19 => simp_all; omega
  all_goals simp

theorem takenUnconfigured_iff (code : Nat) : takenUnconfigured code = true ↔ code ∈ [1, 2, 4, 16] := by
  simp [takenUnconfigured, or_assoc]

section
variable {unconfigured : Bool} {bytes : List Byte}

theorem messageRefusal_short (h : bytes.length < 3) : messageRefusal unconfigured bytes = some .badLength := if_pos h

theorem messageRefusal_unknown (long : 3 ≤ bytes.length) (h : payloadLength (u8At bytes 0) = none) :
    messageRefusal unconfigured bytes = some .unknownCommand := by
  rw [messageRefusal, if_neg (Nat.not_lt.mpr long), h]

theorem messageRefusal_known (long : 3 ≤ bytes.length) {n : Nat} (h : payloadLength (u8At bytes 0) = some n) :
    messageRefusal unconfigured bytes =
      if unconfigured && !takenUnconfigured (u8At bytes 0) then some .unconfigured
      else if u16At bytes 1 ≠ n ∨ bytes.length < 3 + n then some .badLength
      else none := by
  rw [messageRefusal, if_neg (Nat.not_lt.mpr long), h]

theorem exec_unknownCommand_refused {s : State} {status : Status} (clocked : bytes ≠ [])
    (h : (∃ im, Serves im s) ∨ s.configured = .unconfigured)
    (refused : messageRefusal (s.configured == .unconfigured) bytes = some status) :
    exec (.unknownCommand bytes) s = .next (answered (.unknownCommand bytes) ⟨status, bytes.headD 0, []⟩ s) := by
  obtain ⟨head, tail, rfl⟩ := List.exists_cons_of_ne_nil clocked
  have gate := fun f => h.elim (fun ⟨_, serves⟩ => hostAny_serves serves (.unknownCommand (head :: tail)) f)
    fun unset => hostAny_unconfigured unset _ f
  refine congrArg Host.Outcome.next ((gate _).trans ?_)
  obtain ⟨x, kept⟩ := finishCaptured_captured (.unknownCommand (head :: tail)) s
  have code : BitVec.ofNat 8 (u8At (head :: tail) 0) = head := BitVec.ofNat_toNat 8 head
  simp only [answered, kept, refused, refuse, respond, code, List.headD_cons]

end

/-- Settles O20: a host command by the gate it passes (`exec_gated`), and a malformed message by its refusal (`messageRefusal_known`). -/
theorem commandsThatAreNotServed : Obligations.CommandsThatAreNotServed := by
  refine ⟨fun c code s coded => ⟨exec_answersPending coded, exec_refusedUnconfigured coded⟩, ?_⟩
  intro s bytes clocked taken answer code
  have refused : ∀ {status}, messageRefusal (s.configured == .unconfigured) bytes = some status → answer status :=
    exec_unknownCommand_refused clocked taken
  have read : u8At bytes 0 = code := by cases bytes <;> rfl
  refine ⟨fun short => refused (messageRefusal_short short), fun long unknown => ?_, fun long low high unset outside => ?_,
    fun n long length served bad => ?_⟩
  · refine refused (messageRefusal_unknown long ?_)
    rw [← Option.not_isSome_iff_eq_none, payloadLength_isSome_iff, read]
    omega
  · obtain ⟨n, length⟩ := Option.isSome_iff_exists.mp ((payloadLength_isSome_iff code).mpr ⟨low, high⟩)
    rw [← read] at length outside
    refine refused ((messageRefusal_known long length).trans (if_pos ?_))
    rw [← takenUnconfigured_iff] at outside
    simp [unset, outside]
  · rw [← read] at length served
    refine refused ((messageRefusal_known long length).trans ((if_neg ?_).trans (if_pos bad)))
    rw [← takenUnconfigured_iff] at served
    simpa [Decidable.or_iff_not_imp_left] using served

end Sys2Proof.Machine
end

section
/-! PROOF. Transactions (R180 to R183, R203): when chip select falls on an execution, what its rise ends, and the command taken. -/

namespace Sys2Proof.Machine

/-- R183, R184: a command counts as executing while LOADING, while one is captured, and in the wait after RESTART. -/
theorem executing_iff (s : State) :
    executing s = true ↔
      (∃ read, s.configured = .loading read) ∨ (s.configured = .unconfigured ∧ s.hpt.captured ≠ none) ∨
        ∃ im, s.configured = .running im ∧ (s.slc.leaveWait = true ∨ s.hpt.captured ≠ none) := by
  unfold executing
  cases configured : s.configured with
  | loading read => simp
  | unconfigured => simp [Option.isSome_iff_ne_none]
  | running im => simp [Option.isSome_iff_ne_none, or_comm]

theorem execPending_executing {s : State} (busy : executing s = true) :
    exec .pending s =
      .next { s with
        hpt := { s.hpt with miso := [1, 0, 0, 0], pendingOpen := true, underWay := false, misoReleased := false } } :=
  if_pos busy

-- The rise of chip select.

section
variable {s : State} (bytes : List Byte)

theorem exec_chipSelectRise_acrossReset (across : acrossReset s = true) :
    exec (.chipSelectRise bytes) s =
      .next (endTransaction (shiftedAcross s.draws bytes.length) s.hpt.captured { s with draws := s.draws + 1 }) :=
  congrArg Host.Outcome.next (if_pos across)

theorem exec_chipSelectRise_wasPending (within : acrossReset s = false) (pending : wasPending s = true) :
    exec (.chipSelectRise bytes) s = .next (endTransaction (shiftedOut pendingAnswer bytes.length) s.hpt.captured s) :=
  congrArg Host.Outcome.next ((if_neg (Bool.eq_false_iff.mp within)).trans (if_pos pending))

theorem exec_chipSelectRise_served (within : acrossReset s = false) (free : wasPending s = false) :
    exec (.chipSelectRise bytes) s =
      .next (endTransaction (shiftedOut s.hpt.held bytes.length) (if bytes.isEmpty then s.hpt.captured else some bytes) s) :=
  congrArg Host.Outcome.next ((if_neg (Bool.eq_false_iff.mp within)).trans (if_neg (Bool.eq_false_iff.mp free)))

end

-- The command of a transaction that was taken.

theorem commandOf_mem_dueEvents {s : State} {bytes : List Byte} (taken : s.hpt.captured = some bytes)
    (h : (∃ im, Serves im s) ∨ s.configured = .unconfigured) : commandOf bytes ∈ dueEvents s := by
  have due : commandOf bytes ∈ dueCommand s := by simp [dueCommand, taken]
  rcases h with ⟨im, running, serves⟩ | unset
  · simp [dueEvents, running, serves, due]
  · simp [dueEvents, unset, due]

theorem finishCaptured_taken {s : State} {bytes : List Byte} (taken : s.hpt.captured = some bytes) :
    finishCaptured (commandOf bytes) s = { s with hpt.captured := none } := by
  rw [finishCaptured, taken]
  exact if_pos rfl

theorem finishCaptured_other {s : State} {bytes : List Byte} (taken : s.hpt.captured = some bytes) {c : Instr}
    (other : c ≠ commandOf bytes) : finishCaptured c s = s := by
  rw [finishCaptured, taken]
  exact if_neg fun same => other (Option.some.inj same).symm

/-- Settles O19: the rise of chip select in its three cases, with what counts as executing by `executing_iff`. -/
theorem transactionsAreTakenOrAnsweredPending : Obligations.TransactionsAreTakenOrAnsweredPending := by
  refine ⟨?_, fun s bytes taken =>
    ⟨commandOf_mem_dueEvents taken, finishCaptured_taken taken, fun c => finishCaptured_other taken⟩⟩
  intro s bytes busy ended
  have executes : executing s = true ↔ busy := executing_iff s
  refine ⟨fun h => execPending_executing (executes.mpr h), fun shut under => ?_, fun h => ?_, fun shut apart free => ?_⟩
  · exact ⟨_, exec_chipSelectRise_acrossReset bytes (by simp [acrossReset, shut, under]), shiftedAcross_length .., by
      simp [endTransaction, shut]⟩
  · refine exec_chipSelectRise_wasPending bytes ?_ ?_
    · rcases h with opened | ⟨apart, -⟩
      · simp [acrossReset, opened]
      · simp [acrossReset, apart]
    · rcases h with opened | ⟨-, h⟩
      · simp [wasPending, opened]
      · simp [wasPending, executes.mpr h]
  · have served := exec_chipSelectRise_served bytes (s := s) (by simp [acrossReset, apart])
      (by simpa [wasPending, shut] using fun e => free (executes.mp e))
    refine ⟨fun byteless => ?_, fun clocked => ?_⟩
    · subst byteless; exact served
    · rwa [if_neg (by simpa using clocked)] at served

end Sys2Proof.Machine
end

section
/-! PROOF. EVENTS, EVENT ENABLE and ATTN (R198 to R200). -/

namespace Sys2Proof.Machine

/-- Sets of flags that meet have a flag in common. -/
theorem and_ne_zero_iff {n : Nat} {x y : BitVec n} : x &&& y ≠ 0 ↔ ∃ i : Fin n, x[i] = true ∧ y[i] = true := by
  refine ⟨fun meet => ?_, fun ⟨i, inX, inY⟩ empty => ?_⟩
  · by_contra apart
    refine meet (BitVec.eq_of_getElem_eq fun i below => ?_)
    have out : ¬(x[i] = true ∧ y[i] = true) := fun both => apart ⟨⟨i, below⟩, both⟩
    simpa using out
  · have member : (x &&& y)[i] = true := by simpa using ⟨inX, inY⟩
    rw [Fin.getElem_fin, empty] at member
    simp at member

theorem attn_iff (s : State) : s.attn = true ↔ ∃ i : Fin 15, s.hpt.flags[i] = true ∧ s.hpt.enable[i] = true := by
  rw [State.attn, bne_iff_ne]
  exact and_ne_zero_iff

/-- A mask with bit 15 set names a member outside the fifteen flags (Table 23), and any other the set in its low bits. -/
theorem flagSetOf_cases (x : BitVec 16) :
    (x.getLsbD 15 = true → flagSetOf x = none) ∧ (x.getLsbD 15 = false → flagSetOf x = some (x.extractLsb' 0 15)) := by
  unfold flagSetOf
  exact ⟨fun outside => if_pos outside, fun within => if_neg (Bool.eq_false_iff.mp within)⟩

section
variable {im : Image} {s : State} {x : BitVec 16}

theorem exec_events_refused (h : Serves im s ∨ s.configured = .unconfigured) (outside : flagSetOf x = none) :
    exec (.events x) s = .next (answered (.events x) ⟨.badValue, 16, []⟩ s) := by
  refine congrArg Host.Outcome.next ((hostAny_taken h _ _).trans ?_)
  simp only [outside]; rfl

theorem exec_events_clears (h : Serves im s ∨ s.configured = .unconfigured) {named : BitVec 15} (names : flagSetOf x = some named) :
    exec (.events x) s =
      .next { finishCaptured (.events x) s with
        hpt.flags := s.hpt.flags &&& ~~~named, hpt.held := ⟨.ok, 16, bytes16 (s.hpt.flags.setWidth 16)⟩ } := by
  refine congrArg Host.Outcome.next ((hostAny_taken h _ _).trans ?_)
  obtain ⟨y, kept⟩ := finishCaptured_captured (.events x) s
  simp only [kept, names]; rfl

theorem exec_eventEnable_refused (h : Serves im s) (outside : flagSetOf x = none) :
    exec (.eventEnable x) s = .next (answered (.eventEnable x) ⟨.badValue, 17, []⟩ s) := by
  refine congrArg Host.Outcome.next ((hostRunning_serves h _ _ _).trans ?_)
  simp only [outside]; rfl

theorem exec_eventEnable_replaces (h : Serves im s) {named : BitVec 15} (names : flagSetOf x = some named) :
    exec (.eventEnable x) s =
      .next { finishCaptured (.eventEnable x) s with
        hpt.enable := named, hpt.held := ⟨.ok, 17, bytes16 (s.hpt.enable.setWidth 16)⟩ } := by
  refine congrArg Host.Outcome.next ((hostRunning_serves h _ _ _).trans ?_)
  obtain ⟨y, kept⟩ := finishCaptured_captured (.eventEnable x) s
  simp only [kept, names]; rfl

end

/-- Settles O24: ATTN by `attn_iff`, and each of the two commands by the set that its mask names (`flagSetOf_cases`). -/
theorem eventsAndTheEnableSet : Obligations.EventsAndTheEnableSet := by
  intro im s x
  obtain ⟨outside, within⟩ := flagSetOf_cases x
  refine ⟨attn_iff s,
    fun h => ⟨fun member => exec_events_refused h (outside member), fun clear => exec_events_clears h (within clear)⟩,
    fun h => ⟨fun member => exec_eventEnable_refused h (outside member), fun clear => exec_eventEnable_replaces h (within clear)⟩,
    fun unset => ?_⟩
  exact congrArg Host.Outcome.next (hostRunning_unconfigured unset _ _ _)

end Sys2Proof.Machine
end

section
/-! PROOF. The messages of the host's commands (R180, Tables 22 and 23): what `commandOf` reads back of a code, a length and a payload. -/

namespace Sys2Proof

open Machine

/-- The first bytes of a list as a vector are the vector that they spell, whatever follows them. -/
theorem vecOf_toList_append {n : Nat} (image : Vector Byte n) (fill : List Byte) : vecOf n (image.toList ++ fill) = image := by
  refine Vector.ext fun i below => ?_
  have first : i < image.toList.length := by rwa [Vector.length_toList]
  simp [vecOf, List.getD_eq_getElem?_getD, List.getElem?_append_left first, below]

/-- Table 23: the payload of a command has the length that its code names, and reads back as the command, whatever follows it. -/
theorem payload_spells {c : Instr} {code : Nat} (coded : commandCode c = some code) (fill : List Byte) :
    payloadLength code = some (payloadOf c).length ∧ payloadCommand code (payloadOf c ++ fill) = some c := by
  cases c with
  | nop | status | lineStatus | recordPeek | recordRelease | restart => cases coded; exact ⟨rfl, rfl⟩
  | closeSession | outletStatus | rosterRead | tariffSelect | tariffRead => cases coded; exact ⟨rfl, rfl⟩
  | configure image =>
    cases coded
    exact ⟨congrArg some image.length_toList.symm, congrArg (some ∘ Instr.configure) (vecOf_toList_append image fill)⟩
  | tariffLoad bank image =>
    cases coded
    exact ⟨congrArg (some ∘ Nat.succ) image.length_toList.symm,
      congrArg (some ∘ Instr.tariffLoad bank) (vecOf_toList_append image fill)⟩
  | setClock | setDemand | events | eventEnable =>
    cases coded
    simp [payloadLength, payloadCommand, payloadOf, bytes16, word16_extractLsb]
  | openSession =>
    cases coded
    simp [payloadLength, payloadCommand, payloadOf, bytes16, bytes32, word16_extractLsb, word32_extract]
  | _ => nomatch coded

/-- The codes are those of Table 23, and a payload's length fits in its two bytes. -/
theorem payloadLength_bounds {code n : Nat} (h : payloadLength code = some n) : (1 ≤ code ∧ code ≤ 18) ∧ n ≤ 64 := by
  unfold payloadLength at h
  split at h <;> simp at h <;> omega

theorem toNat_word16_be (n : Nat) (h : n < 65536) :
    (word16 (BitVec.ofNat 8 (n / 256 ^ 1)) (BitVec.ofNat 8 (n / 256 ^ 0))).toNat = n := by
  rw [word16, BitVec.toNat_append, ← Nat.shiftLeft_add_eq_or_of_lt (BitVec.isLt _), Nat.shiftLeft_eq]
  simp only [BitVec.toNat_ofNat]
  omega

/-- R180: a code, its length and a payload of that length are read as the command they spell, whatever follows them. -/
theorem commandOf_framed {code : Nat} {payload : List Byte} (length : payloadLength code = some payload.length) {c : Instr}
    {fill : List Byte} (spells : payloadCommand code (payload ++ fill) = some c) :
    commandOf (BitVec.ofNat 8 code :: be 2 payload.length ++ payload ++ fill) = c := by
  obtain ⟨⟨-, most⟩, short⟩ := payloadLength_bounds length
  have same : (BitVec.ofNat 8 code).toNat = code := Nat.mod_eq_of_lt (by omega)
  have carried := toNat_word16_be payload.length (by omega)
  have enough : payload.length ≤ (payload ++ fill).length := by simp
  simp only [be, List.cons_append, List.nil_append, commandOf, same, length, carried, enough, and_self, if_true, spells, Option.getD_some]

/-- Settles O57: every host command has a payload that spells it (`payload_spells`), and the message frames it. -/
theorem messagesSpellTheirCommands : Obligations.MessagesSpellTheirCommands := by
  intro c message fill written
  obtain ⟨code, coded, rfl⟩ := Option.map_eq_some_iff.mp written
  obtain ⟨length, spells⟩ := payload_spells coded fill
  exact commandOf_framed length spells

end Sys2Proof
end

section
/-! PROOF. Start-up (R203, R204, R208): the reset state, the resets, and the passes of a configuration read. -/

namespace Sys2Proof.Machine

-- The reset state (R203).

theorem atRest_reset : AtRest OutletState.reset := ⟨rfl, rfl, rfl, rfl, rfl⟩

/-- Settles O5: every queue, roster and account is empty, nothing is granted, and the part does not run. -/
theorem resetMeetsTheInvariants : Obligations.ResetMeetsTheInvariants := by
  have halted : ∀ im, State.reset.configured ≠ .running im := nofun
  have accounts : AccountsExact OutletState.reset.acc := accountsExact_cleared
  have line : LineReset State.reset := ⟨halted, rfl, _, _, rfl⟩
  have sessions : SessionsSafe State.reset := sessionsSafe_powerOnState State.reset
  have queue : QueueNumbered State.reset := ⟨by decide, fun _ _ => nofun⟩
  have records : RecordsSettled State.reset := ⟨nofun, fun o r held => by rw [reset_out] at held; nomatch held⟩
  have banks : BoundBankKept State.reset := fun o => by rw [reset_out]; exact ⟨rfl, nofun, nofun⟩
  exact ⟨queue, records, ⟨atRest_reset, atRest_reset⟩, sessions, banks, line.rosterSafe, line.lineSafe, capKept_not_running halted,
    fun im running => absurd running (halted im), fun im _ running => absurd running (halted im),
    fun im running => absurd running (halted im), accounts, accounts⟩

-- The resets (R203).

/-- POWER_ON begins a read unless the reset line is held LOW (R203). -/
theorem exec_powerOn (s : State) :
    exec .powerOn s =
      .next { powerOnState s with configured := .loading (if s.resetLow then none else some freshRead) } := by
  rw [exec, execPowerOn]
  split <;> rfl

/-- Settles O15: a reset leaves `powerOnState`, each outlet by `resetOutlet_spec`, and the edges of the line begin or leave a read. -/
theorem powerOnAndTheResetLine : Obligations.PowerOnAndTheResetLine := by
  intro s transaction
  have outletA := resetOutlet_spec s.outA
  have outletB := resetOutlet_spec s.outB
  refine ⟨⟨_, rfl, rfl, rfl, rfl, fun open_ => ?_, fun closed marked => ?_, rfl, outletA, outletB⟩, ?_, fun loading => ?_, fun other => ?_⟩
  · simp [crossesReset, open_]
  · simp [crossesReset, closed, marked]
  · exact ⟨_, exec_powerOn s, rfl, rfl, rfl, outletA, outletB⟩
  · simp only [exec, execResetLineReleased, loading, freshRead]
  · simp only [exec, execResetLineReleased]
    split
    · exact absurd ‹_› other
    all_goals rfl

-- The configuration read (R204, R208).

theorem exec_configurationReadEnd_passes {s : State} {read next : ConfigRead} {result : ReadResult}
    (reads : s.configured = .loading (some read)) (second : secondPass read result = some next) :
    exec (.configurationReadEnd result) s = .next { s with configured := .loading (some next) } := by
  simp only [exec, execConfigurationReadEnd, reads, second]

theorem exec_configurationReadEnd_fails {s : State} {read : ConfigRead} {result : ReadResult}
    (reads : s.configured = .loading (some read)) (ends : secondPass read result = none) (invalid : readImage read result = none) :
    exec (.configurationReadEnd result) s = .next (becomeUnconfigured s) := by
  simp only [exec, execConfigurationReadEnd, reads, ends, invalid]

theorem exec_configurationReadEnd_starts {s : State} {read : ConfigRead} {result : ReadResult} {im : Image}
    (reads : s.configured = .loading (some read)) (ends : secondPass read result = none) (valid : readImage read result = some im) :
    exec (.configurationReadEnd result) s = .next (enterRunning im s) := by
  simp only [exec, execConfigurationReadEnd, reads, ends, valid]

theorem secondPass_eq_none {read : ConfigRead} {result : ReadResult}
    (h : read.failed = true ∨ result = .noAcknowledge ∨ read.firstPass ≠ none) : secondPass read result = none := by
  rcases secondPass_cases read result with ⟨bytes, pass, first, good, -⟩ | ⟨none, -⟩
  · simp [pass, first, good] at h
  · exact none

/-- The image of a second pass that gives the bytes of the first (R204). -/
theorem readImage_pass (first second : Vector Byte 64) (n : Nat) :
    readImage ⟨some first, n, false⟩ (.pass second) = if first = second then validImage second.toList else none := by
  rw [readImage, if_neg Bool.false_ne_true, readBytes]
  by_cases same : first = second <;> simp [same]

theorem mem_dueEvents_loading {s : State} {read : ConfigRead} (reads : s.configured = .loading (some read)) {c : Instr} :
    c ∈ dueEvents s ↔ s.clockTickDue = true ∧ c = .tariffClockAdvance ∨ c ∈ dueRead read := by
  simp only [dueEvents, reads, List.mem_append, mem_dueIf]

/-- A read that failed or was not acknowledged, or whose passes differ or are no valid image, ends and gives no image (R204, R208). -/
theorem readImage_eq_none {read : ConfigRead} {result : ReadResult}
    (h : read.failed = true ∨ result = .noAcknowledge ∨
      ∃ first second, read.firstPass = some first ∧ result = .pass second ∧ (first ≠ second ∨ validImage first.toList = none)) :
    secondPass read result = none ∧ readImage read result = none := by
  obtain ⟨firstPass, elapsed, failed⟩ := read
  rcases h with failed | rfl | ⟨first, second, pass, rfl, bad⟩
  · exact ⟨secondPass_eq_none (.inl failed), if_pos failed⟩
  · exact ⟨rfl, ite_self _⟩
  · refine ⟨secondPass_eq_none (.inr (.inr (by rw [pass]; nofun))), ?_⟩
    cases failed with
    | true => rfl
    | false =>
      obtain rfl : firstPass = some first := pass
      rw [readImage_pass]
      split
      · rename_i same
        exact same ▸ bad.resolve_left (not_not.mpr same)
      · rfl

/-- Settles O16: the second pass, the two failures that fall due, and the read that gives no image (`readImage_eq_none`). -/
theorem failedReadLeavesUnconfigured : Obligations.FailedReadLeavesUnconfigured := by
  intro s read reads
  refine ⟨?_, fun good => ?_, fun failed => ?_, fun bytes good first => ?_, fun result bad => ?_⟩
  · simp only [exec, execPassTimeout, reads]
  · have due : dueRead read = dueIf (decide (100 ≤ read.elapsed)) .passTimeout := by rw [dueRead, good]; rfl
    simp [mem_dueEvents_loading reads, due, mem_dueIf]
  · simp [mem_dueEvents_loading reads, dueRead, failed]
  · exact exec_configurationReadEnd_passes reads (by simp [secondPass, first, good])
  · obtain ⟨ends, none⟩ := readImage_eq_none bad
    exact exec_configurationReadEnd_fails reads ends none

end Sys2Proof.Machine
end

section
/-! PROOF. The entry to RUNNING (R205 to R209): what a valid image is, and the first computation of a part that grants nothing. -/

namespace Sys2Proof.Machine

-- A computation of a part that grants nothing (R48, R72, R76).

theorem AtRest.claimless {u : OutletState} (h : AtRest u) : Claimless u := by
  obtain ⟨idle, -⟩ := h
  simp [Claimless, idle]

theorem AtRest.out {s : State} (a : AtRest s.outA) (b : AtRest s.outB) (o : Outlet) : AtRest (s.out o) := by
  cases o
  exacts [a, b]

theorem handed_of_atRest (im : Image) (o : Outlet) (now : Nat) {u : OutletState} (h : AtRest u) (shareless : u.share.target = 0) :
    handed im o now u = u := by
  obtain ⟨dispensing, parked⟩ := h.claimless
  obtain ⟨-, target, -, -, pending⟩ := h
  cases fits : fitted im o with
  | true =>
    rw [handed_elsewhere fits now dispensing parked, withPending, withTarget, shareless, ← target, ← pending]
  | false => rw [handed, fits]; rfl

theorem handOverAt_of_atRest (im : Image) {o : Outlet} {s : State} (h : AtRest (s.out o)) (shareless : (s.out o).share.target = 0) :
    handOverAt im o s = s := by
  rw [handOverAt_of_handed (handed_of_atRest im o s.now h shareless), putOutlet_same rfl, setOut_self]

/-- With nothing to hand over, a hand-over stops the rise hold alone (R76). -/
theorem handOver_of_atRest (im : Image) {s : State} (h : ∀ o, AtRest (s.out o)) (shareless : ∀ o, (s.out o).share.target = 0) :
    handOver im s = { s with grl := { s.grl with riseHold := none, riseWaiting := false } } := by
  have none : noPending s = true := noPending_iff.mpr fun o => by
    obtain ⟨-, -, -, -, pending⟩ := h o
    exact pending
  rw [handOver, handOverAt_of_atRest im (h .a) (shareless .a), handOverAt_of_atRest im (h .b) (shareless .b), holdRises_eq,
    holdRises_grl, if_pos none]

/-- The state with a result that gives neither outlet a share (R48), and no rise waiting for one. -/
def sharesNone (im : Image) (s : State) : State :=
  { s with
    shc := ⟨isolatedShare im s, availablePower im s, siteBusy im s⟩
    grl := { s.grl with riseHold := none, riseWaiting := false }
    outA.share := ⟨0, 0, 0, none⟩
    outB.share := ⟨0, 0, 0, none⟩ }

section
variable (im : Image) {s : State} (h : ∀ o, AtRest (s.out o)) (owed : s.slc.slot ≠ .empty)
include h owed

theorem computeOnce_of_atRest : computeOnce im s = sharesNone im s := by
  have share : ∀ o, shareResult im s o = ⟨0, 0, 0, none⟩ := fun o => shareResult_of_claimless (h o).claimless
  have handed : handOver im (compute im s) = sharesNone im s := by
    rw [handOver_of_atRest im (fun o => ?_) fun o => ?_, compute, share, share]
    · rfl
    · rw [out_compute]; exact h o
    · rw [out_compute, share]
  rw [computeOnce, noted, handed]
  rcases noteUpdate_cases im (announced im s) (sharesNone im s) with same | ⟨empty, -⟩
  · exact same
  · exact absurd empty owed

theorem computation_of_atRest : computation im s = sharesNone im s := by
  rw [computation, computations, computeOnce_of_atRest im h owed]
  exact if_pos rfl

end

-- The Share Calculator as the roster starts (R44, R48).

section
variable {im : Image} {s : State} (starts : s.prs = Prs.start im)
include starts

theorem isolatedShare_start : isolatedShare im s = (im.limit - im.guard) / im.nSite := by
  rw [isolatedShare, starts]; rfl

theorem availablePower_start :
    availablePower im s = if im.nSite = 1 then im.limit - im.guard else (im.limit - im.guard) / im.nSite := by
  have mode : s.prs.mode = if im.nSite = 1 then .joined else .isolated := by rw [starts]; rfl
  by_cases alone : im.nSite = 1
  · rw [if_pos alone] at mode ⊢
    simp [availablePower, staleReservation, starts, Prs.start, alone]
  · rw [if_neg alone] at mode ⊢
    rw [availablePower_not_joined (by rw [mode]; nofun), isolatedShare_start starts]

/-- No outlet and no peer claims anything (R62). -/
theorem siteBusy_start (h : ∀ o, AtRest (s.out o)) : siteBusy im s = false := by
  have own : ownClaimants im s none = [] := by
    simp [ownClaimants, splitDemand_of_claimless (h _).claimless]
  have peers : peerClaimants s = [] := by rw [peerClaimants, starts]; rfl
  have nobody : siteClaimants im s none = [] := by
    unfold siteClaimants
    rw [own, peers]
    split <;> rfl
  rw [← Bool.not_eq_true, siteBusy_iff, nobody]
  rintro ⟨-, demanding, -⟩
  exact absurd demanding (by decide)

end

-- The entry to RUNNING (R208).

/-- The state that enters RUNNING, before its first computation (R208 with R8, R44, R95, R122, R210). -/
def startedOn (im : Image) (s : State) : State :=
  { s with
    configured := .running im
    hpt.flags := s.hpt.flags ||| 1
    slc := { s.slc with slot := .due .announce, shareTick := some (s.now + im.sharePeriod) }
    prs := Prs.start im
    eStop := startFilter false s.eStop
    outA := startFilters s.outA
    outB := if fitted im .b then startFilters s.outB else { startFilters s.outB with mtf.stray := 0 } }

theorem enterRunning_eq (im : Image) (s : State) :
    enterRunning im s = firstWord im .b (firstWord im .a (computation im (startedOn im s))) := by
  unfold enterRunning startedOn
  cases fitted im .b <;> rfl

theorem atRest_startedOn (im : Image) {s : State} (h : ∀ o, AtRest (s.out o)) (o : Outlet) : AtRest ((startedOn im s).out o) := by
  cases o with
  | a => exact h .a
  | b =>
    rw [out_b, startedOn]
    dsimp only
    split <;> exact h .b

/-- A fitted outlet that is granted nothing starts with a word of 0 (R92). -/
theorem outletStarted_of_atRest {u : OutletState} (h : AtRest u) :
    { startFilters u with share := ⟨0, 0, 0, none⟩, grl := beginWord u.grl } = outletStarted true u := by
  obtain ⟨-, -, commanded, -⟩ := h
  rw [beginWord, show setptWord u.grl.commanded = setptWord 0 from congrArg _ commanded]
  rfl

/-- A part that grants nothing enters RUNNING with its blocks started, no share and a word of 0 (R208). -/
theorem enterRunning_of_atRest (im : Image) {s : State} (h : ∀ o, AtRest (s.out o)) : enterRunning im s = runningOn im s := by
  have rests := atRest_startedOn im h
  rw [enterRunning_eq, computation_of_atRest im rests nofun, sharesNone, isolatedShare_start rfl, availablePower_start rfl,
    siteBusy_start rfl rests]
  unfold firstWord startedOn runningOn
  rw [← outletStarted_of_atRest (u := s.outA) (h .a), show (im.outlets == 2) = fitted im .b from rfl]
  cases fits : fitted im .b with
  | true => rw [← outletStarted_of_atRest (u := s.outB) (h .b)]; rfl
  | false => rfl

-- A valid image (R205 to R207, Table 27).

/-- The weekend byte, always there among 64 (Table 27). -/
theorem imageItems_weekend (image : Vector Byte 64) :
    imageItems image.toList = { imageItems image.toList with weekend := image[42] } := by
  have weekend : (imageItems image.toList).weekend = image[42] := by simp [imageItems]
  rw [← weekend]

theorem validImage_eq_some_iff {l : List Byte} {im : Image} :
    validImage l = some im ↔
      im = imageItems l ∧ checkWordGood l = true ∧ itemsInRange im = true ∧ relationsHold im = true := by
  rw [validImage, Option.ite_none_right_eq_some, Bool.and_eq_true, Bool.and_eq_true, Option.some_inj, and_assoc, and_assoc]
  constructor
  · rintro ⟨check, items, relations, rfl⟩
    exact ⟨rfl, check, items, relations⟩
  · rintro ⟨rfl, check, items, relations⟩
    exact ⟨check, items, relations, rfl⟩

theorem checkWordGood_iff {l : List Byte} :
    checkWordGood l = true ↔ u16At l 62 = 65535 - ((l.take 62).map BitVec.toNat).sum % 65536 := beq_iff_eq

/-- A value in a range, both ends included. -/
def Within (lo hi n : Nat) : Prop := lo ≤ n ∧ n ≤ hi

theorem inRange_iff {lo hi n : Nat} : inRange lo hi n = true ↔ Within lo hi n := by simp [inRange, Within]

/-- The weekend set is a mask of days 0 to 6 (Table 27). -/
theorem getLsbD_seven_iff (mask : Byte) : mask.getLsbD 7 = false ↔ mask.toNat < 128 := by
  rw [← BitVec.msb_eq_getLsbD_last (w := 8), BitVec.msb_eq_false_iff_two_mul_lt]
  omega

/-- R206, item by item in the order of Table 27. -/
theorem itemsInRange_iff {im : Image} :
    itemsInRange im = true ↔
      Within 1 31 im.stationId ∧ Within 1 31 im.nSite ∧ Within 10 40000 im.limit ∧ im.guard ≤ 4000 ∧ Within 10 10000 im.pMax ∧
        Within 1 2 im.outlets ∧ Within 10 6000 im.pOutA ∧ (im.outlets = 2 → Within 10 6000 im.pOutB) ∧
        (∀ x ∈ [im.weight0, im.weight1, im.weight2, im.weight3], Within 1 15 x) ∧
        Within 100 1000 im.sharePeriod ∧ 50 ∣ im.sharePeriod ∧ Within 2 8 im.staleCount ∧ Within 3 32 im.isolationCount ∧
        Within 4 64 im.lapseCount ∧ Within 10 2000 im.riseStep ∧ im.resumeMargin ≤ 500 ∧ Within 1 60 im.parkHold ∧
        Within 100 2000 im.confirmTimeout ∧ Within 1 30 im.startTimeout ∧ Within 20 500 im.feedbackTime ∧
        im.filterDepth ∈ [3, 7, 15] ∧ im.meterDepth ∈ [3, 7, 15] ∧ im.pulseWeight ∈ [1, 2, 5, 10] ∧ im.beta ≤ 4 ∧
        im.tolerance ≤ 1000 ∧ Within 1 15 im.overDrawLimit ∧ Within 50 100 im.busyPercent ∧ im.stopReserve ≤ 500 ∧
        im.weekend.toNat < 128 := by
  simp only [itemsInRange, Bool.and_eq_true, Bool.or_eq_true, beq_iff_eq, inRange_iff, List.contains_eq_mem, decide_eq_true_eq,
    Bool.not_eq_true', getLsbD_seven_iff, List.forall_mem_cons, List.not_mem_nil, IsEmpty.forall_iff, implies_true,
    Nat.dvd_iff_mod_eq_zero, Nat.zero_le, true_and, and_assoc, and_congr_right_iff, Within]
  intros
  -- The rating of outlet B is examined unless one outlet is fitted; the number of outlets is 1 or 2 (R206).
  have ratingB : (im.outlets = 1 ∨ 10 ≤ im.pOutB ∧ im.pOutB ≤ 6000) ↔ (im.outlets = 2 → 10 ≤ im.pOutB ∧ im.pOutB ≤ 6000) := by
    omega
  exact and_congr_left' ratingB

/-- R207. -/
theorem relationsHold_iff {im : Image} :
    relationsHold im = true ↔
      im.guard < im.limit ∧ im.staleCount < im.isolationCount ∧ im.isolationCount < im.lapseCount ∧
        im.isolationCount * im.sharePeriod + im.confirmTimeout + im.sharePeriod ≤ im.lapseCount * im.sharePeriod := by
  simp [relationsHold, and_assoc]

-- The end of a read (R204, R208).

/-- A read whose second pass gives the bytes of its first, and a valid image (R204, R208). -/
theorem exec_configurationReadEnd_runningOn {s : State} {image : Vector Byte 64} {im : Image} {n : Nat}
    (reads : s.configured = .loading (some ⟨some image, n, false⟩)) (valid : validImage image.toList = some im)
    (rests : ∀ o, AtRest (s.out o)) : exec (.configurationReadEnd (.pass image)) s = .next (runningOn im s) := by
  rw [← enterRunning_of_atRest im rests]
  exact exec_configurationReadEnd_starts reads (secondPass_eq_none (.inr (.inr nofun)))
    ((readImage_pass image image n).trans ((if_pos rfl).trans valid))

-- CONFIGURE (R191, R209).

section
variable {s : State} {image : Vector Byte 64}

theorem exec_configure_running {im : Image} (serves : Serves im s) :
    exec (.configure image) s = .next { finishCaptured (.configure image) s with hpt.held := ⟨.wrongState, 4, []⟩ } := by
  obtain ⟨x, kept⟩ := finishCaptured_captured (.configure image) s
  simp only [exec, execConfigure, hostAny_serves serves, kept, serves.1]
  rfl

theorem exec_configure_invalid (unset : s.configured = .unconfigured) (invalid : validImage image.toList = none) :
    exec (.configure image) s = .next { finishCaptured (.configure image) s with hpt.held := ⟨.badValue, 4, []⟩ } := by
  obtain ⟨x, kept⟩ := finishCaptured_captured (.configure image) s
  simp only [exec, execConfigure, hostAny_unconfigured unset, kept, unset, invalid]
  rfl

theorem exec_configure_valid (unset : s.configured = .unconfigured) {im : Image} (valid : validImage image.toList = some im)
    (rests : ∀ o, AtRest (s.out o)) :
    exec (.configure image) s =
      .next { runningOn im (finishCaptured (.configure image) s) with hpt.held := ⟨.ok, 4, []⟩ } := by
  have still : ∀ o, AtRest ((finishCaptured (.configure image) s).out o) := fun o => by rw [finishCaptured_out]; exact rests o
  rw [← enterRunning_of_atRest im still]
  obtain ⟨x, kept⟩ := finishCaptured_captured (.configure image) s
  simp only [exec, execConfigure, hostAny_unconfigured unset, kept, unset, valid]
  rfl

end

/-- Settles O17: the entry to RUNNING is `enterRunning_of_atRest`, CONFIGURE answers in each configured state, and the three tests are those of
`checkWordGood_iff`, `itemsInRange_iff` and `relationsHold_iff`. -/
theorem validImageEntersRunning : Obligations.ValidImageEntersRunning := by
  refine ⟨fun s image im valid a b => ⟨fun n reads => ?_, fun unset => ?_⟩,
    fun s image => ⟨fun im serves => ?_, fun unset invalid => ?_⟩, fun image im => ?_⟩
  · exact exec_configurationReadEnd_runningOn reads valid (AtRest.out a b)
  · exact exec_configure_valid unset valid (AtRest.out a b)
  · exact exec_configure_running serves
  · exact exec_configure_invalid unset invalid
  · intro b w within
    rw [validImage_eq_some_iff, checkWordGood_iff, itemsInRange_iff, relationsHold_iff, imageItems_weekend]
    simp only [and_assoc]
    rfl

end Sys2Proof.Machine
end

section
/-! PROOF. The step that takes a command: the other case is `idle_step`. -/

namespace Sys2Proof.Machine

/-- Time stands still while a command waits: the step is the command's own, on the state without it (assumption log 1). -/
theorem step_of_pending_eq_cons {s : State} {c : Instr} {rest : List Instr} (waits : s.pending = c :: rest) :
    step s = exec c { s with pending := rest } := by
  unfold step; rw [waits]

/-- Settles O1: to put a command in front and take it off again gives the state back. -/
theorem stepRunsTheCommandInFront : Obligations.StepRunsTheCommandInFront := by
  intro c s
  have waits : ({ s with pending := c :: s.pending } : State).pending = c :: s.pending := rfl
  exact step_of_pending_eq_cons waits

end Sys2Proof.Machine
end
